-- ==== Sys2Proof/Word.lean ====
section
/-! DEFINITION. The word types of the block and the small enumerations its registers hold. -/

namespace Sys2Proof

/-- A byte of the LED Value Store, 8 bits (R30, R62). -/
abbrev Byte := BitVec 8

/-- One compare value, an entry of the Double Buffer or of the Color Encoding Table, `CW = 16` bits wide (R6, R31,
R32, decision D8). -/
abbrev CompareValue := BitVec 16

/-- The `HALF_LEN = 24` compare values of one half, what an encoder step writes and a slot reads (R6, R62). -/
abbrev HalfData := Vector CompareValue 24

/-- The `BUF_LEN = 48` compare values of the Double Buffer, two halves (R6, R31). -/
abbrev Buffer := Vector CompareValue 48

/-- The operation word, the one length of an input (R80). -/
abbrev OpWord := BitVec 64

/-- A half of the Double Buffer: half 0 is the "first half", half 1 the "second half" (R9, R64). -/
inductive Half where
  | first
  | second
  deriving DecidableEq, Repr, Inhabited

/-- A colour channel of an LED: `R`, `G`, `B` (R9, R30). -/
inductive Channel where
  | r
  | g
  | b
  deriving DecidableEq, Repr, Inhabited

/-- `LIFE` (R23). -/
inductive Life where
  | uninit
  | running
  deriving DecidableEq, Repr, Inhabited

/-- `STATE`, the document's `EncoderState` (R25); the code 3 is no value of the type (R25, I9). -/
inductive EncState where
  | reset
  | idle
  | data
  deriving DecidableEq, Repr, Inhabited

/-- The status the host command port returns (R88); the code 3 is never returned. -/
inductive Status where
  | ok
  | outOfRange
  | allocFailure
  deriving DecidableEq, Repr, Inhabited

end Sys2Proof
end

