-- ==== Sys2Proof/Config.lean ====
section
/-! DEFINITION. The parameters of rule R6 and the values the spec leaves open.
Every `opaque` constant here has no body: no proof can know its value, so a claim about it holds for every value. -/

namespace Sys2Proof

/-- The OPEN parameters of rule R6 (decisions D9, D10, D11, D21). They are configuration, not state (R20):
`State` carries them in a field that no step writes (assumption log 1). -/
structure Params where
  /-- `RESET_CYCLES`, the counted all-zero halves of a RESET visit. -/
  resetCycles : Nat
  /-- `T_SHORT`, the compare value of a 0-bit. -/
  tShort : CompareValue
  /-- `T_LONG`, the compare value of a 1-bit. -/
  tLong : CompareValue
  /-- `PWM_PERIOD`, read by no rule except the constraint on `T_LONG`. -/
  pwmPeriod : Nat
  /-- `LED_CAPACITY`, the largest LED count for which allocation can succeed. -/
  ledCapacity : Nat
  /-- `DEADLINE_MET`, whether the stream waits for the encoder (R215). -/
  deadlineMet : Bool
  deriving DecidableEq, Repr, Inhabited

/-- The constraints rule R6 puts on the parameters. The rules of the spec are total without them (R132), so no
step checks them; a claim that needs one takes it as a hypothesis. -/
def Params.admitted (p : Params) : Bool :=
  decide (10 ≤ p.resetCycles) && decide (0 < p.tShort.toNat) && decide (p.tShort.toNat < p.tLong.toNat) &&
    decide (p.tLong.toNat < p.pwmPeriod) && decide (p.pwmPeriod ≤ 2 ^ 16) &&
    decide (1 ≤ p.ledCapacity) && decide (p.ledCapacity ≤ 2 ^ 32 - 1)

/-- Which agent takes the next step (R5). A foreground move carries the free choice of R100 (2) among the pending
byte writes: the write at index `pick` modulo their number. -/
inductive Move where
  | stream
  | encoder
  | foreground (pick : Nat)
  deriving DecidableEq, Repr, Inhabited

/-- The parameters of the block after reset: OPEN in rule R6 (assumption log 1). -/
opaque Config.params : Params

/-- The moves of a round of the schedule after the turn that is owed in it: any finite number of moves of any agents
(R5, I7; assumption log 3). -/
opaque Config.freeRound : Nat → List Move

/-- The choice among the pending byte writes (R100 (2), I6) in a round whose owed turn is the foreground's
(assumption log 3). -/
opaque Config.freePick : Nat → Nat

/-- The draw `alloc_ok` of an `INIT` for which the state prescribes none (R191, I5; assumption log 4). -/
opaque Config.freeAlloc : Nat → Bool

/-- What `N` holds before a successful `INIT`: the spec gives it no value (R40; assumption log 2). -/
opaque Config.resetLedCount : BitVec 32
/-- What `STATE` holds before a successful `INIT`: no value in R40 (assumption log 2). -/
opaque Config.resetEncState : EncState
/-- What `RESET_COUNT` holds before a successful `INIT`: no value in R40 (assumption log 2). -/
opaque Config.resetResetCount : Nat
/-- What `ZHW` holds before a successful `INIT`: no value in R40 (assumption log 2). -/
opaque Config.resetZhw : Fin 3
/-- What `CURSOR` holds before a successful `INIT`: no value in R40 (assumption log 2). -/
opaque Config.resetCursor : BitVec 32
/-- What `DIRTY` holds before a successful `INIT`: no value in R40 (assumption log 2). -/
opaque Config.resetDirty : Bool
/-- What `CUR_HALF` holds before a successful `INIT`: no value in R40 (assumption log 2). -/
opaque Config.resetCurHalf : Half
/-- What `SLOT` holds before a successful `INIT`: no value in R40 (assumption log 2). -/
opaque Config.resetSlot : Nat
/-- What `LAST_EVT` holds before the first event: no value in R40 (assumption log 2). -/
opaque Config.resetLastEvt : Half
/-- What `STATUS` holds before the host port first returns one: no value in R40 (assumption log 2). -/
opaque Config.resetStatus : Status

end Sys2Proof
end

