-- ==== Sys2Proof/Syntax.lean ====
section
/-! DEFINITION. The six operations of the block (R84) and the lines of the trace syntax (R90). -/

namespace Sys2Proof

/-- One constructor per row of `spec/opcode_table.json` (R84). The operands are bit vectors of their fields'
widths (R83), so every value of the type fits its fields. -/
inductive Instr where
  /-- `INIT COUNT`: `init(ledCount)` (R190). -/
  | init (count : BitVec 32)
  /-- `SETV IDX, CH, VAL`: `setValue(index, channel, value)` (R102). -/
  | setv (idx : BitVec 32) (ch : BitVec 2) (val : Byte)
  /-- `SETVS IDX, R, G, B`: `setValues(index, r, g, b)` (R106). -/
  | setvs (idx : BitVec 32) (r g b : Byte)
  /-- `CLEAR`: `clearAll()` (R110). -/
  | clear
  /-- `EVT_HALF0`: "first half consumed" (R139). -/
  | evtHalf0
  /-- `EVT_HALF1`: "second half consumed" (R140). -/
  | evtHalf1
  deriving DecidableEq, Repr, Inhabited

/-- A line of the trace syntax of rule R90, its operands the natural numbers as written; `r`, `g`, `b` stand for
the channel numbers 0, 1, 2. -/
inductive TraceLine where
  | init (count : Nat)
  | setv (idx ch val : Nat)
  | setvs (idx r g b : Nat)
  | clear
  | evtHalf0
  | evtHalf1
  deriving DecidableEq, Repr, Inhabited

end Sys2Proof
end

