-- ==== Sys2Proof/WellFormed.lean ====
section
/-! DEFINITION. The check of rule R90 on a trace line: every operand fits its field.
An `Instr` needs no check of its own: its operands are bit vectors of the fields' widths (R83), and R86 makes every
value of every field a legal encoding. -/

namespace Sys2Proof

/-- Every operand fits its field (R90): an index or count below 2^32, a byte at most 255, a channel at most 3. -/
def TraceLine.wellFormed : TraceLine → Bool
  | .init count => decide (count < 2 ^ 32)
  | .setv idx ch val => decide (idx < 2 ^ 32) && decide (ch ≤ 3) && decide (val ≤ 255)
  | .setvs idx r g b => decide (idx < 2 ^ 32) && decide (r ≤ 255) && decide (g ≤ 255) && decide (b ≤ 255)
  | .clear => true
  | .evtHalf0 => true
  | .evtHalf1 => true

end Sys2Proof
end

