-- ==== Sys2Proof/Decode.lean ====
section
/-! DEFINITION. Decoding of the 64-bit operation word, total, refusing by name (R80 to R89), and the encoder. -/

namespace Sys2Proof

/-- Why a word spells no operation (R85). -/
inductive Illegal where
  /-- `OP` is reserved: 0x0, 0x5 to 0x7, 0xA to 0xF. -/
  | reservedOp (op : BitVec 4)
  /-- a must-be-zero field of the format of `OP` is not zero (R82). -/
  | nonzeroField (op : BitVec 4)
  deriving DecidableEq, Repr

/-- What the decoder answers for a word. -/
inductive Decoded where
  | instr (i : Instr)
  | illegal (why : Illegal)
  deriving DecidableEq, Repr

/-- Field `OP = word[63:60]` (R81). -/
def opField (w : OpWord) : BitVec 4 := w.extractLsb' 60 4

/-- Fields `COUNT` and `IDX`, `word[31:0]` (R83). -/
def lowField (w : OpWord) : BitVec 32 := w.extractLsb' 0 32

/-- Field `CH = word[57:56]` (R83). -/
def chField (w : OpWord) : BitVec 2 := w.extractLsb' 56 2

/-- Field `R = word[55:48]` (R83). -/
def rField (w : OpWord) : Byte := w.extractLsb' 48 8

/-- Field `G = word[47:40]` (R83). -/
def gField (w : OpWord) : Byte := w.extractLsb' 40 8

/-- Fields `B` and `VAL`, `word[39:32]` (R83). -/
def bField (w : OpWord) : Byte := w.extractLsb' 32 8

/-- The must-be-zero fields of format `F_CNT`, `word[59:32]` (R82). -/
def mbzCnt (w : OpWord) : BitVec 28 := w.extractLsb' 32 28

/-- The upper must-be-zero field of format `F_SV`, `word[59:58]` (R82). -/
def mbzSvHigh (w : OpWord) : BitVec 2 := w.extractLsb' 58 2

/-- The lower must-be-zero fields of format `F_SV`, `word[55:40]` (R82). -/
def mbzSvLow (w : OpWord) : BitVec 16 := w.extractLsb' 40 16

/-- The must-be-zero fields of format `F_SVS`, `word[59:56]` (R82). -/
def mbzSvs (w : OpWord) : BitVec 4 := w.extractLsb' 56 4

/-- The must-be-zero fields of format `F_Z`, `word[59:0]` (R82). -/
def mbzZ (w : OpWord) : BitVec 60 := w.extractLsb' 0 60

/-- Decoding (R89): match `OP` (R84), then check the must-be-zero fields of its format (R82, R85). -/
def decode (w : OpWord) : Decoded :=
  if opField w = 0x1#4 then
    if mbzCnt w = 0#28 then .instr (.init (lowField w)) else .illegal (.nonzeroField (opField w))
  else if opField w = 0x2#4 then
    if mbzSvHigh w = 0#2 ∧ mbzSvLow w = 0#16 then .instr (.setv (lowField w) (chField w) (bField w))
    else .illegal (.nonzeroField (opField w))
  else if opField w = 0x3#4 then
    if mbzSvs w = 0#4 then .instr (.setvs (lowField w) (rField w) (gField w) (bField w))
    else .illegal (.nonzeroField (opField w))
  else if opField w = 0x4#4 then
    if mbzZ w = 0#60 then .instr .clear else .illegal (.nonzeroField (opField w))
  else if opField w = 0x8#4 then
    if mbzZ w = 0#60 then .instr .evtHalf0 else .illegal (.nonzeroField (opField w))
  else if opField w = 0x9#4 then
    if mbzZ w = 0#60 then .instr .evtHalf1 else .illegal (.nonzeroField (opField w))
  else .illegal (.reservedOp (opField w))

/-- The word of an operation, its fields laid side by side from bit 63 down as the formats of R82 give them. -/
def encode : Instr → OpWord
  | .init count => 0x1#4 ++ 0#28 ++ count
  | .setv idx ch val => 0x2#4 ++ 0#2 ++ ch ++ 0#16 ++ val ++ idx
  | .setvs idx r g b => 0x3#4 ++ 0#4 ++ r ++ g ++ b ++ idx
  | .clear => 0x4#4 ++ 0#60
  | .evtHalf0 => 0x8#4 ++ 0#60
  | .evtHalf1 => 0x9#4 ++ 0#60

/-- The instruction of a decoded word, if it has one. -/
def Decoded.toInstr? : Decoded → Option Instr
  | .instr i => some i
  | .illegal _ => none

/-- The instruction the decoder reads from a row of `spec/opcode_table.json`: bit 0 of `w` is the least significant
bit of the word, the bits above `nbits` are 0, and a row has at most the 64 bits of the one operation word (R80). -/
def decodeTableWord (nbits w : Nat) : Option Instr :=
  if nbits ≤ 64 ∧ w < 2 ^ nbits then (decode (BitVec.ofNat 64 w)).toInstr? else none

/-- The operation an event raises (R139, R140): the stream names the half. -/
def Instr.ofEvent : Half → Instr
  | .first => .evtHalf0
  | .second => .evtHalf1

/-- The half an event operation names; `none` for a host command (R81). -/
def Instr.event? : Instr → Option Half
  | .init _ => none
  | .setv _ _ _ => none
  | .setvs _ _ _ _ => none
  | .clear => none
  | .evtHalf0 => some .first
  | .evtHalf1 => some .second

/-- The table's mnemonic of an operation (R84). -/
def Instr.mnemonic : Instr → String
  | .init _ => "INIT"
  | .setv _ _ _ => "SETV"
  | .setvs _ _ _ _ => "SETVS"
  | .clear => "CLEAR"
  | .evtHalf0 => "EVT_HALF0"
  | .evtHalf1 => "EVT_HALF1"

/-- The operation of a trace line whose operands fit; any other line is rejected and spells none (R90). -/
def TraceLine.toInstr? (l : TraceLine) : Option Instr :=
  if l.wellFormed then
    match l with
    | .init count => some (.init (BitVec.ofNat 32 count))
    | .setv idx ch val => some (.setv (BitVec.ofNat 32 idx) (BitVec.ofNat 2 ch) (BitVec.ofNat 8 val))
    | .setvs idx r g b =>
      some (.setvs (BitVec.ofNat 32 idx) (BitVec.ofNat 8 r) (BitVec.ofNat 8 g) (BitVec.ofNat 8 b))
    | .clear => some .clear
    | .evtHalf0 => some .evtHalf0
    | .evtHalf1 => some .evtHalf1
  else none

/-- The word of a trace line (R90). -/
def TraceLine.toWord? (l : TraceLine) : Option OpWord := l.toInstr?.map encode

/-- A row of `spec/opcode_table.json`: a word is the row's when `word &&& mask = bits`. -/
structure OpcodeRow where
  mnemonic : String
  bits : OpWord
  mask : OpWord
  deriving DecidableEq, Repr

/-- The match and mask pairs of `spec/opcode_table.json` (R84, R89), kept beside the decoder to be held against it. -/
def opcodeTable : List OpcodeRow :=
  [ ⟨"INIT", 0x1000000000000000#64, 0xFFFFFFFF00000000#64⟩,
    ⟨"SETV", 0x2000000000000000#64, 0xFCFFFF0000000000#64⟩,
    ⟨"SETVS", 0x3000000000000000#64, 0xFF00000000000000#64⟩,
    ⟨"CLEAR", 0x4000000000000000#64, 0xFFFFFFFFFFFFFFFF#64⟩,
    ⟨"EVT_HALF0", 0x8000000000000000#64, 0xFFFFFFFFFFFFFFFF#64⟩,
    ⟨"EVT_HALF1", 0x9000000000000000#64, 0xFFFFFFFFFFFFFFFF#64⟩ ]

/-- The word is the row's. -/
def OpcodeRow.holds (row : OpcodeRow) (w : OpWord) : Bool := w &&& row.mask == row.bits

end Sys2Proof
end

