-- ==== Sys2Proof/Machine/State.lean ====
section
/-! DEFINITION. The state of the block (R20 to R40), its reset value, and the two ways a step can stop. -/

namespace Sys2Proof.Machine

/-- The bytes of the LED space, (address, byte) pairs in one canonical form: addresses strictly rising, no byte 0,
since an unlisted cell of the store reads 0 (what `INIT` leaves, R190). The cell `LED[i][c]` has the address
`3 * i + c` (assumption log 7). -/
abbrev Memory := List Host.Cell

/-- One pending byte write `(i, c, v)` of a foreground command (R36 (b)). -/
structure LedWrite where
  led : Nat
  channel : Channel
  value : Byte
  deriving DecidableEq, Repr, Inhabited

/-- A command in progress (R36): its decoded operands, the byte writes it has still to perform, in the order of
their cells, and whether its dirty set is still to come. -/
structure FgOp where
  op : Instr
  writes : List LedWrite
  dirtyPending : Bool
  deriving DecidableEq, Repr, Inhabited

/-- The kind of an entry of `WLOG`: `ZERO` or `LED i` (R37). -/
inductive WriteKind where
  | zero
  | led (i : Nat)
  deriving DecidableEq, Repr, Inhabited

/-- An entry of `WLOG`: the number of the encoder step, the half, the kind and the 24 values (R37). -/
structure WriteRecord where
  step : Nat
  half : Half
  kind : WriteKind
  values : HalfData
  deriving DecidableEq, Repr

/-- The faults of rule R241. They are records of `FAULTS`, not stops: the model keeps stepping (R242). -/
inductive StreamFault where
  /-- The stream begins a slot on a half whose event is still pending. -/
  | underrun
  /-- The stream raises the event of a half whose previous event is still pending. -/
  | overrun
  deriving DecidableEq, Repr, Inhabited

/-- A fault record: the fault, the half and the slot number (R241, R242). -/
structure FaultRecord where
  fault : StreamFault
  half : Half
  slot : Nat
  deriving DecidableEq, Repr, Inhabited

/-- The refusals of rule R243. Each sets the mark `REFUSED` and nothing else, so a refused input leads to a next
state (assumption log 9). -/
inductive RefuseReason where
  | illegalEncoding (word : OpWord)
  | hostEvent (word : OpWord)
  | notInitialized
  | reinit
  | zeroLeds
  deriving DecidableEq, Repr

/-- The ways the machine stops with a fault. -/
inductive Fault where
  /-- An access to `LED[led][channel]` with `led >= N`, a cell that does not exist (R30, R61). Raised by the DATA
  row of the encoder step and by a byte micro-step, only in states that no run from reset reaches (R160). Safe. -/
  | ledCellAbsent (led : Nat) (channel : Channel)
  deriving DecidableEq, Repr

/-- The inputs the model gives no meaning. -/
inductive Refusal where
  /-- An instruction without a meaning yet, raised by an arm of `exec` only. No arm raises it. Safe. -/
  | notModelled (mnemonic : String)
  deriving DecidableEq, Repr

/-- The state of the block (R20): the encoder registers (R23 to R29), the storage arrays (R30, R31; the table of
R32 is immutable and computed, assumption log 8), the stream and event state (R34, R35), the foreground progress
(R36), and the observation and fault state (R37, R38). After them the model's own data: the parameters (R6), the
host's words and the prescribed choices (assumption log 1, 3, 4, 5). -/
@[ext]
structure State where
  /-- `LIFE` (R23). -/
  life : Life
  /-- `N` (R24). -/
  ledCount : BitVec 32
  /-- `STATE` (R25). -/
  encState : EncState
  /-- `RESET_COUNT` (R26). -/
  resetCount : Nat
  /-- `ZHW` (R27); the value 3 is no value of the type. -/
  zhw : Fin 3
  /-- `CURSOR` (R28). -/
  cursor : BitVec 32
  /-- `DIRTY` (R29). -/
  dirty : Bool
  /-- `LED` (R30). -/
  led : Memory
  /-- `BUF` (R31). -/
  buf : Buffer
  /-- `STARTED` (R34). -/
  started : Bool
  /-- `CUR_HALF` (R34). -/
  curHalf : Half
  /-- `SLOT` (R34). -/
  slot : Nat
  /-- `PENDING[0]` (R35). -/
  pending0 : Bool
  /-- `PENDING[1]` (R35). -/
  pending1 : Bool
  /-- `LAST_EVT` (R35). -/
  lastEvt : Half
  /-- `FG_OP` (R36). -/
  fgOp : Option FgOp
  /-- `STATUS` (R36, R88). -/
  status : Status
  /-- `TRACE` (R37, R214). -/
  trace : List HalfData
  /-- `WLOG` (R37). -/
  wlog : List WriteRecord
  /-- The number of encoder steps taken, the step number of `WLOG` (R37; assumption log 15). -/
  encSteps : Nat
  /-- `FAULTS` (R38, R242), a list without repeats. -/
  faults : List FaultRecord
  /-- `REFUSED` (R38, R243). -/
  refused : Bool
  /-- The parameters (R6), which no step writes (assumption log 1). -/
  cfg : Params
  /-- The operation words the host has still to issue, next first (assumption log 5). -/
  words : List OpWord
  /-- The agents prescribed for the next steps (assumption log 3). -/
  moves : List Move
  /-- The `alloc_ok` draws prescribed for the next `INIT`s (assumption log 4). -/
  allocs : List Bool
  /-- How many `alloc_ok` draws have been taken from the free ones (assumption log 4). -/
  drawn : Nat
  /-- How many rounds of the schedule have begun, each with the turn of R216 owed in it (assumption log 3, 17). -/
  rounds : Nat
  deriving DecidableEq, Repr

/-- Block reset (R270, the "at block reset" column of R40). A register to which R40 gives no value holds an opaque
constant of `Config`, so nothing can be proved of what it holds (assumption log 2). -/
def State.reset : State where
  life := .uninit
  ledCount := Config.resetLedCount
  encState := Config.resetEncState
  resetCount := Config.resetResetCount
  zhw := Config.resetZhw
  cursor := Config.resetCursor
  dirty := Config.resetDirty
  led := []
  buf := Vector.replicate 48 0
  started := false
  curHalf := Config.resetCurHalf
  slot := Config.resetSlot
  pending0 := false
  pending1 := false
  lastEvt := Config.resetLastEvt
  fgOp := none
  status := Config.resetStatus
  trace := []
  wlog := []
  encSteps := 0
  faults := []
  refused := false
  cfg := Config.params
  words := []
  moves := []
  allocs := []
  drawn := 0
  rounds := 0

end Sys2Proof.Machine
end

