-- ==== Sys2Proof/Machine/Operands.lean ====
section
/-! DEFINITION. The operand forms: halves, channels and their numbers, the codes of the enumerations, the cells of
the LED space, and the range checks of the mutators. -/

namespace Sys2Proof

/-- The other half, `1 - h` (R7). -/
def Half.other : Half → Half
  | .first => .second
  | .second => .first

/-- The number of a half (R9). -/
def Half.index : Half → Nat
  | .first => 0
  | .second => 1

/-- The half of a number, the half slot `k` reads: `k mod 2` (R9, R210). -/
def Half.ofSlot (k : Nat) : Half := if k % 2 = 0 then .first else .second

/-- The number of a channel, `0 = R`, `1 = G`, `2 = B` (R9, R30). -/
def Channel.index : Channel → Nat
  | .r => 0
  | .g => 1
  | .b => 2

/-- The channel a `CH` operand names; `CH = 3` is outside `{R, G, B}` (R83, R86). -/
def Channel.ofField (ch : BitVec 2) : Option Channel :=
  if ch = 0#2 then some .r else if ch = 1#2 then some .g else if ch = 2#2 then some .b else none

/-- The code of `LIFE` (R23). -/
def Life.code : Life → BitVec 1
  | .uninit => 0#1
  | .running => 1#1

/-- The code of `STATE` (R25). -/
def EncState.code : EncState → BitVec 2
  | .reset => 0#2
  | .idle => 1#2
  | .data => 2#2

/-- The 2-bit status the host reads (R88). -/
def Status.code : Status → BitVec 2
  | .ok => 0#2
  | .outOfRange => 1#2
  | .allocFailure => 2#2

namespace Machine

/-- The code of a fault (R241). -/
def StreamFault.code : StreamFault → Nat
  | .underrun => 1
  | .overrun => 2

/-- The code of a refusal (R243). -/
def RefuseReason.code : RefuseReason → Nat
  | .illegalEncoding _ => 1
  | .hostEvent _ => 2
  | .notInitialized => 3
  | .reinit => 4
  | .zeroLeds => 5

/-- The address of the cell `LED[i][c]` (assumption log 7). -/
def ledAddr (i : Nat) (c : Channel) : Nat := 3 * i + c.index

/-- The range check of an index operand: `IDX < N` (R106, and the pseudocode and corner case of R102). DEDUCED: the
example of R102, `setv 2, r, 5` out of range with `N = 3`, says otherwise and is not followed (assumption log 22). -/
def inRange (idx : BitVec 32) (s : State) : Bool := decide (idx.toNat < s.ledCount.toNat)

/-- The pending writes of `SETVS`: the three channels of one LED (R106). -/
def rgbWrites (i : Nat) (r g b : Byte) : List LedWrite := [⟨i, .r, r⟩, ⟨i, .g, g⟩, ⟨i, .b, b⟩]

/-- The pending writes of `CLEAR`: every channel of every LED below `n`, with 0 (R110). -/
def clearWrites (n : Nat) : List LedWrite := (List.range n).flatMap fun i => rgbWrites i 0 0 0

end Machine
end Sys2Proof
end

