-- ==== Sys2Proof/Machine/Ops.lean ====
section
/-! DEFINITION. The operations every rule is written over (R8): the LED store, the Double Buffer, the pending
events, status, faults, refusals, the trace, entering and leaving the encoder step, and the free choices. -/

namespace Sys2Proof.Machine

/-! ### The LED space -/

/-- What a cell of the store that is not listed reads as: 0, as `INIT` leaves it (R190). -/
def Memory.default : Byte := 0#8

/-- The byte at an address. -/
def Memory.read : Memory → Nat → Byte
  | [], _ => Memory.default
  | (b, x) :: m, a => if a = b then x else Memory.read m a

/-- Put a byte before the rest of the memory; writing the default lists nothing. -/
def Memory.put (a : Nat) (v : Byte) (m : Memory) : Memory := if v = Memory.default then m else (a, v) :: m

/-- Store a byte at an address, keeping the canonical form. -/
def Memory.write : Memory → Nat → Byte → Memory
  | [], a, v => Memory.put a v []
  | (b, x) :: m, a, v =>
    if a < b then Memory.put a v ((b, x) :: m)
    else if a = b then Memory.put a v m
    else (b, x) :: Memory.write m a v

/-- The canonical form above a bound: addresses strictly rising from `lo`, no default byte listed. -/
def Memory.wfFrom : Nat → Memory → Bool
  | _, [] => true
  | lo, (a, v) :: m => decide (lo ≤ a) && (v != Memory.default) && Memory.wfFrom (a + 1) m

/-- The canonical form: equal stores are equal lists. -/
def Memory.wf (m : Memory) : Bool := Memory.wfFrom 0 m

/-- Every listed cell belongs to an LED below `n`: the store has `n` LEDs (R30). -/
def Memory.within (n : Nat) (m : Memory) : Bool := m.all fun cell => decide (cell.1 < 3 * n)

/-- `MemRead(LED, i, c)` (R8). -/
def State.readLed (s : State) (i : Nat) (c : Channel) : Byte := s.led.read (ledAddr i c)

/-- `MemWrite(LED, i, c, v)` (R8). -/
def State.writeLed (i : Nat) (c : Channel) (v : Byte) (s : State) : State :=
  { s with led := s.led.write (ledAddr i c) v }

/-! ### The Double Buffer -/

/-- The half an entry of the buffer belongs to: `BUF[0..23]` is half 0, `BUF[24..47]` half 1 (R64). -/
def entryHalf (j : Nat) : Half := if j < 24 then .first else .second

/-- The entry of the buffer at offset `k` of half `h`: `24*h + k` (R64). -/
def entryOf (h : Half) (k : Fin 24) : Fin 48 :=
  match h with
  | .first => ⟨k.val, by omega⟩
  | .second => ⟨24 + k.val, by omega⟩

/-- The 24 entries of a half in increasing index order (R213). -/
@[irreducible] def halfOf (buf : Buffer) (h : Half) : HalfData :=
  Vector.ofFn fun k => buf[entryOf h k]

/-- The buffer with the 24 entries of one half replaced and the others as they were (R62). -/
@[irreducible] def setHalf (buf : Buffer) (h : Half) (d : HalfData) : Buffer :=
  Vector.ofFn fun j => if entryHalf j.val = h then d[j.val % 24]'(Nat.mod_lt _ (by decide)) else buf[j]

/-- The half `h` of `BUF`, as the stream reads it (R213). -/
def State.half (s : State) (h : Half) : HalfData := halfOf s.buf h

/-- The encoder's write of all 24 entries of half `h` (R131, R135). -/
def State.writeHalf (h : Half) (d : HalfData) (s : State) : State := { s with buf := setHalf s.buf h d }

/-- Append a writing step to `WLOG`, with the number of the encoder step in progress (R37). -/
def State.logWrite (h : Half) (kind : WriteKind) (d : HalfData) (s : State) : State :=
  { s with wlog := s.wlog ++ [⟨s.encSteps, h, kind, d⟩] }

/-- 24 zeros, the low half of RESET and IDLE (R131). -/
def zeroHalf : HalfData := Vector.replicate 24 0

/-! ### Status, refusals and faults -/

/-- `status <- st` (R8, R88). -/
def State.returnStatus (st : Status) (s : State) : State := { s with status := st }

/-- `refuse X`: the mark is set and nothing else changes (R243); the reason names the input that has no meaning. -/
def State.refuse (_why : RefuseReason) (s : State) : State := { s with refused := true }

/-- `raise F(info)`: the record is added to the set `FAULTS` (R242). -/
def State.raise (f : StreamFault) (h : Half) (slot : Nat) (s : State) : State :=
  { s with faults := if ⟨f, h, slot⟩ ∈ s.faults then s.faults else s.faults ++ [⟨f, h, slot⟩] }

/-! ### Events, and the entry to and return from the encoder step -/

/-- `PENDING[h]` (R35). -/
def State.pending (s : State) : Half → Bool
  | .first => s.pending0
  | .second => s.pending1

/-- `PENDING[h] <- b`. -/
def State.setPending (h : Half) (b : Bool) (s : State) : State :=
  match h with
  | .first => { s with pending0 := b }
  | .second => { s with pending1 := b }

/-- An event is raised for half `h`: `PENDING[h] <- true; LAST_EVT <- h` (R212, R247). -/
def State.raiseEvent (h : Half) (s : State) : State := { s.setPending h true with lastEvt := h }

/-- The half an encoder step services, if any event is pending; of two, the one raised earlier (R130, R248). -/
def State.servicedHalf (s : State) : Option Half :=
  match s.pending0, s.pending1 with
  | false, false => none
  | true, false => some .first
  | false, true => some .second
  | true, true => some s.lastEvt.other

/-- Taking an event, the block's one exception: nothing is saved and nothing is switched, and control goes to the
encoder step (R249). Only the number of the step is counted. -/
def State.enterEncoder (s : State) : State := { s with encSteps := s.encSteps + 1 }

/-- The return: `PENDING[h] <- false`, nothing to restore (R138, R250). -/
def State.leaveEncoder (h : Half) (s : State) : State := s.setPending h false

/-! ### The stream's output -/

/-- `emit(n)`: the 24 values of half `n`, in index order, are appended to `TRACE` (R213, R214). -/
def State.emit (n : Half) (s : State) : State := { s with trace := s.trace ++ [s.half n] }

/-! ### The free choices -/

/-- Whose turn is owed in a round: the stream's, the servicing of the event of a half, or the foreground's (R216). -/
inductive Turn where
  | stream
  | event (h : Half)
  | foreground
  deriving DecidableEq, Repr

/-- The turns go round, so that each is owed again and again (R216). -/
def turnOf (round : Nat) : Turn :=
  match round % 4 with
  | 0 => .stream
  | 1 => .event .first
  | 2 => .event .second
  | _ => .foreground

/-- The moves that give the turn owed in the round that begins now, the first of them and the others. The event of a
half takes a second encoder step where the other event is pending too and is the older, so that R130 has it serviced
first (R216; assumption log 17). -/
def State.owedMoves (s : State) : Move × List Move :=
  match turnOf s.rounds with
  | .stream => (.stream, [])
  | .event h => (.encoder, if s.pending h = true ∧ s.servicedHalf = some h.other then [.encoder] else [])
  | .foreground => (.foreground (Config.freePick s.rounds), [])

/-- The agent of the next step: the one the state prescribes; where it prescribes none, a round begins with the turn
owed in it (R5, I7, R216). -/
def State.nextMove (s : State) : Move :=
  match s.moves with
  | [] => s.owedMoves.1
  | m :: _ => m

/-- The choice of the agent is used up. A round that begins prescribes the rest of its owed moves and then its free
ones. -/
def State.takeMove (s : State) : State :=
  match s.moves with
  | [] => { s with moves := s.owedMoves.2 ++ Config.freeRound s.rounds, rounds := s.rounds + 1 }
  | _ :: ms => { s with moves := ms }

/-- The draw `alloc_ok` of an `INIT` (R191): the one the state prescribes, and a free one where it prescribes none. -/
def State.nextAlloc (s : State) : Bool :=
  match s.allocs with
  | [] => Config.freeAlloc s.drawn
  | b :: _ => b

/-- The draw is used up. -/
def State.takeAlloc (s : State) : State :=
  match s.allocs with
  | [] => { s with drawn := s.drawn + 1 }
  | _ :: bs => { s with allocs := bs }

end Sys2Proof.Machine
end

