-- ==== Sys2Proof/Machine/Flags.lean ====
section
/-! DEFINITION. The block's only flag, `DIRTY` (R29): the set of a mutator and the encoder's read-modify-write. -/

namespace Sys2Proof.Machine

/-- The dirty set, the last micro-step of a successful mutator: `DIRTY <- true` where it is still to come (R36 (c),
R100 (3)). -/
def State.setDirty (toCome : Bool) (s : State) : State := { s with dirty := s.dirty || toCome }

/-- The encoder's sample of the flag, one read-modify-write inside one step (R70): where it is set it is cleared and
a pass starts (`STATE <- DATA`), else the state goes where `otherwise` says (R133, R134). -/
def State.sampleDirty (otherwise : EncState) (s : State) : State :=
  if s.dirty then { s with dirty := false, encState := .data } else { s with encState := otherwise }

end Sys2Proof.Machine
end

