-- ==== Sys2Proof/Machine/ColorTable.lean ====
section
/-! DEFINITION. The Color Encoding Table and the 24 values of one LED (R170 to R174, R135). -/

namespace Sys2Proof.Machine

/-- The compare value of one bit: long for 1, short for 0 (R170). -/
def pulse (p : Params) (bit : Bool) : CompareValue := if bit then p.tLong else p.tShort

/-- `CT(v)`, most significant bit first: `CT(v)[k]` is the pulse of `v[7 - k]` (R170, R171, R174). -/
@[irreducible] def ct (p : Params) (v : Byte) : Vector CompareValue 8 := Vector.ofFn fun k => pulse p (v.getLsbD (7 - k.val))

/-- The values a DATA step writes for one LED: the three channels in the order R, G, B (R135). -/
@[irreducible] def rgbHalf (p : Params) (r g b : Byte) : HalfData := ct p r ++ ct p g ++ ct p b

/-- The values of `LED[i]` as the store is now (R135: the store is read live). -/
def State.ledHalf (s : State) (i : Nat) : HalfData :=
  rgbHalf s.cfg (s.readLed i .r) (s.readLed i .g) (s.readLed i .b)

end Sys2Proof.Machine
end

