-- ==== Sys2Proof/Machine/Encoder.lean ====
section
/-! DEFINITION. The Frame Encoder state machine: the seven rows of R131 to R137, the encoder step of R130, and the
meanings of `EVT_HALF0` and `EVT_HALF1` (R139, R140). -/

namespace Sys2Proof.Machine

/-- RESET, row 1: zero-fill half `h` and count it (R131). -/
def zeroFillRow (h : Half) (s : State) : State :=
  { (s.writeHalf h zeroHalf).logWrite h .zero zeroHalf with zhw := s.zhw + 1 }

/-- RESET, row 2: count a zero half (R132). -/
def countRow (s : State) : State := { s with resetCount := s.resetCount + 1 }

/-- RESET, row 3: the end of RESET (R133). -/
def endResetRow (s : State) : State := { s with cursor := 0 }.sampleDirty .idle

/-- The RESET rows, the first whose guard holds (R131). -/
def resetRow (h : Half) (s : State) : State :=
  if s.zhw < 2 then zeroFillRow h s
  else if s.resetCount < s.cfg.resetCycles then countRow s
  else endResetRow s

/-- IDLE, row 4 (R134). -/
def idleRow (s : State) : State := s.sampleDirty .idle

/-- DATA, row 5: the 24 values of `LED[CURSOR]` go to half `h` (R135). -/
def encodeRow (h : Half) (s : State) : State :=
  (s.writeHalf h (s.ledHalf s.cursor.toNat)).logWrite h (.led s.cursor.toNat) (s.ledHalf s.cursor.toNat)

/-- DATA, row 6: the end of a pass (R136). -/
def endPassRow (s : State) : State := { s with cursor := 0, zhw := 0, resetCount := 0, encState := .reset }

/-- DATA, row 7: the next LED (R137). -/
def nextLedRow (s : State) : State := { s with cursor := s.cursor + 1 }

/-- The DATA rows: row 5, then row 6 or row 7 by the guard `CURSOR + 1 = N` (R136, R137). -/
def dataRow (h : Half) (s : State) : State :=
  if s.cursor.toNat + 1 = s.ledCount.toNat then endPassRow (encodeRow h s) else nextLedRow (encodeRow h s)

/-- `EncoderStep(h)` (R130). Row 5's guard `CURSOR < N` holds in every state a run reaches (R160); where it does not
hold, the row would read a cell that does not exist (assumption log 14). -/
def encoderStep (h : Half) (s : State) : Host.Outcome State Fault Refusal :=
  match s.encState with
  | .reset => .next ((resetRow h s.enterEncoder).leaveEncoder h)
  | .idle => .next ((idleRow s.enterEncoder).leaveEncoder h)
  | .data =>
    if s.cursor.toNat < s.ledCount.toNat then .next ((dataRow h s.enterEncoder).leaveEncoder h)
    else .fault (.ledCellAbsent s.cursor.toNat .r)

/-- `EVT_HALF0`: the encoder step for half 0, run when `ENC` services the event (R139). -/
def execEvtHalf0 (s : State) : Host.Outcome State Fault Refusal := encoderStep .first s

/-- `EVT_HALF1`: the encoder step for half 1, run when `ENC` services the event (R140). -/
def execEvtHalf1 (s : State) : Host.Outcome State Fault Refusal := encoderStep .second s

end Sys2Proof.Machine
end

