-- ==== Sys2Proof/Machine/Stream.lean ====
section
/-! DEFINITION. The stream agent: the start, the slot-end step and when it is enabled (R210 to R216). -/

namespace Sys2Proof.Machine

/-- `StartStream()`, part of a successful `INIT`; slot 0 reads half 0 (R211). -/
def startStream (s : State) : State :=
  { s with started := true, curHalf := .first, slot := 0, pending0 := false, pending1 := false }.emit .first

/-- `Overrun` where the event of the half just consumed is still pending (R212, R241). -/
def checkOverrun (s : State) : State := if s.pending s.curHalf then s.raise .overrun s.curHalf s.slot else s

/-- `Underrun` where the half to read next has its event still pending (R212, R241). -/
def checkUnderrun (s : State) : State :=
  if s.pending s.curHalf.other then s.raise .underrun s.curHalf.other (s.slot + 1) else s

/-- The stream begins the other half: a new slot and its snapshot (R212, R213). -/
def beginSlot (s : State) : State := { s with curHalf := s.curHalf.other, slot := s.slot + 1 }.emit s.curHalf.other

/-- `SlotEnd()` (R212). -/
def slotEnd (s : State) : State := beginSlot (checkUnderrun ((checkOverrun s).raiseEvent s.curHalf))

/-- The slot-end step is enabled once the stream is started, and, where the deadline is met, while the event of the
half it would begin is not pending (R212); never before a successful `INIT` (R245). -/
def streamEnabled (s : State) : Bool :=
  decide (s.life = .running) && s.started && !(s.cfg.deadlineMet && s.pending s.curHalf.other)

end Sys2Proof.Machine
end

