-- ==== Sys2Proof/Machine/Init.lean ====
section
/-! DEFINITION. The meaning of `INIT` (R190 to R195). -/

namespace Sys2Proof.Machine

/-- What a successful `INIT` writes: `N`, the zeroed store, the encoder registers, `LIFE`, the started stream and the
status; `BUF` is not written (R190, R211). -/
def initialise (count : BitVec 32) (s : State) : State :=
  (startStream
    { s with ledCount := count, led := [], encState := .reset, zhw := 2, resetCount := 0, cursor := 0,
             dirty := false, life := .running }).returnStatus .ok

/-- The allocation of `INIT` for a count the capacity admits: the draw decides (R191, R193). -/
def allocate (count : BitVec 32) (s : State) : State :=
  if s.nextAlloc then initialise count s.takeAlloc else s.takeAlloc.returnStatus .allocFailure

/-- `INIT COUNT`, one atomic micro-step (R190, R195); the refusals of R194 come first, in the order of R248. -/
def execInit (count : BitVec 32) (s : State) : Host.Outcome State Fault Refusal :=
  .next (
    if s.life = .running then s.refuse .reinit
    else if count = 0 then s.refuse .zeroLeds
    else if count.toNat ≤ s.cfg.ledCapacity then allocate count s
    else s.returnStatus .allocFailure)

end Sys2Proof.Machine
end

