-- ==== Sys2Proof/Machine/LedStore.lean ====
section
/-! DEFINITION. The LED store commands: the issue micro-steps of `SETV`, `SETVS`, `CLEAR`, and the byte and final
micro-steps they share (R100 to R111). -/

namespace Sys2Proof.Machine

/-- The admission check of the mutators: `refuse NotInitialized` before a successful `INIT` (R245). -/
def whenRunning (s : State) (command : State) : State := if s.life = .running then command else s.refuse .notInitialized

/-- A command that passed its range check is in progress: its writes and its dirty set are pending (R100 (1)). -/
def beginCommand (op : Instr) (writes : List LedWrite) (s : State) : State := { s with fgOp := some ⟨op, writes, true⟩ }

/-- `SETV IDX, CH, VAL`, the issue micro-step (R102). -/
def execSetv (idx : BitVec 32) (ch : BitVec 2) (val : Byte) (s : State) : Host.Outcome State Fault Refusal :=
  .next (whenRunning s (
    match inRange idx s, Channel.ofField ch with
    | true, some c => beginCommand (.setv idx ch val) [⟨idx.toNat, c, val⟩] s
    | _, _ => s.returnStatus .outOfRange))

/-- `SETVS IDX, R, G, B`, the issue micro-step (R106). -/
def execSetvs (idx : BitVec 32) (r g b : Byte) (s : State) : Host.Outcome State Fault Refusal :=
  .next (whenRunning s (
    if inRange idx s then beginCommand (.setvs idx r g b) (rgbWrites idx.toNat r g b) s else s.returnStatus .outOfRange))

/-- `CLEAR`, the issue micro-step (R110). -/
def execClear (s : State) : Host.Outcome State Fault Refusal :=
  .next (whenRunning s (beginCommand .clear (clearWrites s.ledCount.toNat) s))

/-- A byte micro-step: the pending write at index `k` is performed and no longer pending (R100 (2), R103, R107, R111).
A write to a cell that does not exist is formed by no rule (assumption log 14). -/
def byteStep (k : Nat) (op : FgOp) (s : State) : Host.Outcome State Fault Refusal :=
  match op.writes[k]? with
  | none => .next s
  | some w =>
    if w.led < s.ledCount.toNat then
      .next { s.writeLed w.led w.channel w.value with fgOp := some { op with writes := op.writes.eraseIdx k } }
    else .fault (.ledCellAbsent w.led w.channel)

/-- The final micro-step: the dirty set, the status and the end of the command (R100 (3)). -/
def finalStep (op : FgOp) (s : State) : State := { (s.setDirty op.dirtyPending).returnStatus .ok with fgOp := none }

/-- The next micro-step of the command in progress: a byte write, taken in any order, while one is pending, and then
the final one (R100). `pick` is the free choice, an index modulo the number of pending writes. -/
def microStep (pick : Nat) (op : FgOp) (s : State) : Host.Outcome State Fault Refusal :=
  if op.writes.isEmpty then .next (finalStep op s) else byteStep (pick % op.writes.length) op s

end Sys2Proof.Machine
end

