-- ==== Sys2Proof/Machine/Dispatch.lean ====
section
/-! DEFINITION. The meaning of every operation: one arm per constructor of `Instr`. -/

namespace Sys2Proof.Machine

def exec (i : Instr) (s : State) : Host.Outcome State Fault Refusal :=
  match i with
  | .init count => Sys2Proof.Machine.execInit count s
  | .setv idx ch val => Sys2Proof.Machine.execSetv idx ch val s
  | .setvs idx r g b => Sys2Proof.Machine.execSetvs idx r g b s
  | .clear => Sys2Proof.Machine.execClear s
  | .evtHalf0 => Sys2Proof.Machine.execEvtHalf0 s
  | .evtHalf1 => Sys2Proof.Machine.execEvtHalf1 s

end Sys2Proof.Machine
end

