-- ==== Sys2Proof/Machine/Agents.lean ====
section
/-! DEFINITION. One step of each agent (R5): the foreground, the encoder, the stream. -/

namespace Sys2Proof.Machine

/-- The foreground issues a word on the host command port (R100 (1)): an illegal word and an event word are refused
(R85, R87), a command runs. -/
def issue (w : OpWord) (s : State) : Host.Outcome State Fault Refusal :=
  match decode w with
  | .illegal _ => .next (s.refuse (.illegalEncoding w))
  | .instr i =>
    match i.event? with
    | some _ => .next (s.refuse (.hostEvent w))
    | none => exec i s

/-- A foreground step: the next micro-step of the command in progress; where there is none, the issue of the host's
next word (R68, R100); where the host has none, nothing. -/
def foregroundStep (pick : Nat) (s : State) : Host.Outcome State Fault Refusal :=
  match s.fgOp with
  | some op => microStep pick op s
  | none =>
    match s.words with
    | [] => .next s
    | w :: ws => issue w { s with words := ws }

/-- The half the encoder would service now: an encoder step is enabled when an event is pending (R130) and the block
is running (R245; assumption log 13). -/
def encoderTurn (s : State) : Option Half := if s.life = .running then s.servicedHalf else none

/-- An encoder step: where one is enabled, the operation of the event it services (R130, R139, R140). -/
def encoderAgentStep (s : State) : Host.Outcome State Fault Refusal :=
  match encoderTurn s with
  | some h => exec (Instr.ofEvent h) s
  | none => .next s

/-- A stream step: where it is enabled, the slot end (R212); else the stream waits. -/
def streamStep (s : State) : State := if streamEnabled s then slotEnd s else s

/-- The step of the agent a move names. -/
def agentStep (m : Move) (s : State) : Host.Outcome State Fault Refusal :=
  match m with
  | .stream => .next (streamStep s)
  | .encoder => encoderAgentStep s
  | .foreground pick => foregroundStep pick s

/-- A word is put where the foreground issues its next command: no command is in progress, the word is the host's
next, and the foreground moves next. -/
def placeCommand (w : OpWord) (s : State) : State :=
  { s with fgOp := none, words := w :: s.words, moves := .foreground 0 :: s.moves }

/-- An event is put where the encoder services its next one: the block is running (a block that is not is first
initialised with one LED, since no event can exist before that, R245), the event is pending and is the one to be
serviced first (R130), and the encoder moves next. -/
def placeEvent (h : Half) (s : State) : State :=
  let r := if s.life = .running then s else initialise 1 s
  { r.setPending h true with
    lastEvt := if r.pending h.other then h.other else r.lastEvt
    moves := .encoder :: s.moves }

/-- The state in which the next step runs the operation of a word (assumption log 6). -/
def placeWord (w : OpWord) (s : State) : State :=
  match (decode w).toInstr?.bind Instr.event? with
  | some h => placeEvent h s
  | none => placeCommand w s

end Sys2Proof.Machine
end

