-- ==== Sys2Proof/Machine/Step.lean ====
section
/-! DEFINITION. One step of the block: the agent whose turn it is takes its step (R5, R67). -/

namespace Sys2Proof.Machine

/-- One event of the single total order of steps (R67). -/
def step (s : State) : Host.Outcome State Fault Refusal := agentStep s.nextMove s.takeMove

/-- `s` with the operation whose word is `w` placed where the next step takes it (assumption log 6). -/
def State.withFetchWord (s : State) (nbits w : Nat) : State := placeWord (BitVec.ofNat 64 (w % 2 ^ nbits)) s

end Sys2Proof.Machine
end

