-- ==== Sys2Proof/Machine/Assembler.lean ====
section
/-! DEFINITION. The trace syntax of rule R90, from the characters of a line to its word. The block itself reads only
words; this is the notation in which the spec writes programs down (assumption log 19). -/

namespace Sys2Proof.Machine

/-- The characters before a comment: `;` starts one (R90). -/
def dropComment : List Char → List Char
  | [] => []
  | c :: cs => if c = ';' then [] else c :: dropComment cs

/-- Blank characters separate the parts of a line. -/
def isBlank (c : Char) : Bool := c = ' ' || c = '\t' || c = '\r'

/-- Put a finished part before the others. -/
def flushPart (part : List Char) (parts : List (List Char)) : List (List Char) :=
  if part.isEmpty then parts else part :: parts

/-- The parts of a line: runs of other characters, and each comma by itself. `part` is the run in progress. -/
def splitParts : List Char → List Char → List (List Char)
  | part, [] => flushPart part []
  | part, c :: cs =>
    if isBlank c then flushPart part (splitParts [] cs)
    else if c = ',' then flushPart part ([','] :: splitParts [] cs)
    else splitParts (part ++ [c]) cs

/-- The value of a digit in base 10 or 16. -/
def digitValue (base : Nat) (c : Char) : Option Nat :=
  let n := c.toNat
  if 48 ≤ n ∧ n ≤ 57 then some (n - 48)
  else if base = 16 ∧ 97 ≤ n ∧ n ≤ 102 then some (n - 87)
  else if base = 16 ∧ 65 ≤ n ∧ n ≤ 70 then some (n - 55)
  else none

/-- The number digits spell, most significant first, on top of the value read so far. -/
def digitsValue (base : Nat) : Nat → List Char → Option Nat
  | acc, [] => some acc
  | acc, c :: cs => (digitValue base c).bind fun d => digitsValue base (acc * base + d) cs

/-- A number in decimal or `0x` hexadecimal (R90). -/
def parseNumber : List Char → Option Nat
  | [] => none
  | '0' :: 'x' :: [] => none
  | '0' :: 'x' :: cs => digitsValue 16 0 cs
  | cs => digitsValue 10 0 cs

/-- A channel operand: `r`, `g`, `b`, or `#` and its number (R90). -/
def parseChannel : List Char → Option Nat
  | ['r'] => some 0
  | ['g'] => some 1
  | ['b'] => some 2
  | '#' :: cs => parseNumber cs
  | _ => none

/-- The operation the parts of a line name, its operands separated by commas (R90). -/
def parseParts : List (List Char) → Option TraceLine
  | [['i', 'n', 'i', 't'], n] => (parseNumber n).map .init
  | [['s', 'e', 't', 'v'], i, [','], c, [','], v] =>
    (parseNumber i).bind fun i => (parseChannel c).bind fun c => (parseNumber v).map fun v => .setv i c v
  | [['s', 'e', 't', 'v', 's'], i, [','], r, [','], g, [','], b] =>
    (parseNumber i).bind fun i => (parseNumber r).bind fun r => (parseNumber g).bind fun g =>
      (parseNumber b).map fun b => .setvs i r g b
  | [['c', 'l', 'e', 'a', 'r']] => some .clear
  | [['e', 'v', 't', '.', 'h', 'a', 'l', 'f', '0']] => some .evtHalf0
  | [['e', 'v', 't', '.', 'h', 'a', 'l', 'f', '1']] => some .evtHalf1
  | _ => none

/-- The line of the trace syntax that characters spell. -/
def parseLine (cs : List Char) : Option TraceLine := parseParts (splitParts [] (dropComment cs))

/-- The word a line of characters spells; an operand that does not fit is rejected and spells no word (R90). -/
def assembleLine (cs : List Char) : Option OpWord := (parseLine cs).bind TraceLine.toWord?

end Sys2Proof.Machine
end

