-- ==== Sys2Proof/Safety.lean ====
section
/-! DEFINITION. What counts as a good state and a safe run: the invariants of R160 to R163 and R217, the premises of
R242 and R243, and the short runs in whose terms the claims are made. -/

namespace Sys2Proof.Machine

/-- The premise every claim about a run takes: no fault is recorded and no input was refused (R242, R243). -/
def State.clean (s : State) : Prop := s.faults = [] ∧ s.refused = false

/-- The sequencer position `(STATE, CURSOR, RESET_COUNT, ZHW)` (R22). -/
def State.position (s : State) : EncState × BitVec 32 × Nat × Fin 3 := (s.encState, s.cursor, s.resetCount, s.zhw)

/-- Every entry of the Double Buffer is zero. -/
def State.bufZero (s : State) : Prop := s.half .first = zeroHalf ∧ s.half .second = zeroHalf

/-- What holds until an `INIT` succeeds: nothing has started, nothing is stored, nothing was written (R40, R193, R245). -/
structure UninitInv (s : State) : Prop where
  not_started : s.started = false
  pending0_clear : s.pending0 = false
  pending1_clear : s.pending1 = false
  no_command : s.fgOp = none
  no_store : s.led = []
  buf_zero : s.bufZero
  no_trace : s.trace = []
  no_wlog : s.wlog = []
  no_steps : s.encSteps = 0
  no_faults : s.faults = []

/-- The encoder's invariants of a running block (R24, R160, R161, R162). -/
structure EncoderInv (s : State) : Prop where
  count_pos : 0 < s.ledCount.toNat
  count_le_capacity : s.ledCount.toNat ≤ s.cfg.ledCapacity
  cursor_lt_count : s.cursor.toNat < s.ledCount.toNat
  cursor_zero : s.encState ≠ .data → s.cursor = 0
  resetCount_le : s.resetCount ≤ s.cfg.resetCycles
  counting : 0 < s.resetCount → s.zhw = 2
  reset_done : s.encState ≠ .reset → s.zhw = 2 ∧ s.resetCount = s.cfg.resetCycles

/-- The invariants of the LED store and of the command in progress: the store is in its canonical form and has `N`
LEDs; every pending write is to a cell that exists, and the dirty set is still to come (R30, R36, R100). -/
structure StoreInv (s : State) : Prop where
  led_wf : s.led.wf = true
  led_within : s.led.within s.ledCount.toNat = true
  writes_within : ∀ op, s.fgOp = some op → ∀ w ∈ op.writes, w.led < s.ledCount.toNat
  dirty_to_come : ∀ op, s.fgOp = some op → op.dirtyPending = true

/-- The invariant of the block: what R40 leaves until `INIT` succeeds, and the running invariants after it. -/
structure Inv (s : State) : Prop where
  uninit : s.life = .uninit → UninitInv s
  started : s.life = .running → s.started = true
  encoder : s.life = .running → EncoderInv s
  store : s.life = .running → StoreInv s

/-- The half the next encoder step services when halves alternate: step `k` services half `(k - 1) mod 2` (R217). -/
def State.nextHalf (s : State) : Half := Half.ofSlot s.encSteps

/-- The invariants of a running block whose deadline is met: no fault, strict alternation of the halves (R217), one
encoder step per slot ended, one trace entry per slot begun, and the zero halves of R163. -/
structure DeadlineInv (s : State) : Prop where
  no_faults : s.faults = []
  current_clear : s.pending s.curHalf = false
  slots : s.slot = s.encSteps + (if s.pending s.curHalf.other then 1 else 0)
  current_half : s.curHalf = Half.ofSlot s.slot
  trace_length : s.trace.length = s.slot + 1
  idle_zero : s.encState = .idle → s.bufZero
  reset_zero : s.encState = .reset → s.zhw = 2 → s.bufZero
  data_zero : s.encState = .data → s.cursor = 0 → s.bufZero
  half_zero : s.encState = .reset → s.zhw = 1 → s.half s.nextHalf.other = zeroHalf

/-- `Inv`, and `DeadlineInv` while the block runs with its deadline met (R75, R212, R215). -/
structure SafeInv (s : State) : Prop where
  inv : Inv s
  deadline : s.life = .running → s.cfg.deadlineMet = true → DeadlineInv s

/-- Steps of the foreground alone, with the choices given. -/
def runForeground : List Nat → State → Host.Outcome State Fault Refusal
  | [], s => .next s
  | p :: ps, s =>
    match foregroundStep p s with
    | .next s' => runForeground ps s'
    | .fault f => .fault f
    | .refused r => .refused r

/-- `k` encoder steps, on alternate halves beginning with `h`. -/
def runEncoder : Nat → Half → State → Host.Outcome State Fault Refusal
  | 0, _, s => .next s
  | k + 1, h, s =>
    match exec (Instr.ofEvent h) s with
    | .next s' => runEncoder k h.other s'
    | .fault f => .fault f
    | .refused r => .refused r

/-- A run: an endless sequence of states, each one step after the one before it (R67, R216). -/
def IsRun (r : Nat → State) : Prop := ∀ n, step (r n) = .next (r (n + 1))

/-- The progress that R216 gives every run: a slot-end step that stays enabled is taken, a pending event of a running
block is serviced, and a command in progress completes. -/
structure Fair (r : Nat → State) : Prop where
  stream : ∀ n, (∀ m, n ≤ m → streamEnabled (r m) = true) → ∃ m, n ≤ m ∧ (r m).nextMove = .stream
  encoder : ∀ n h, (r n).life = .running → (r n).pending h = true →
    ∃ m, n ≤ m ∧ (r m).nextMove = .encoder ∧ (r m).servicedHalf = some h
  foreground : ∀ n, (r n).fgOp ≠ none → ∃ m, n ≤ m ∧ (r m).fgOp = none

/-- `k` rounds of the canonical schedule of 95_test_vectors.md: a slot end, then the encoder step it calls for. -/
def runRounds : Nat → State → Host.Outcome State Fault Refusal
  | 0, s => .next s
  | k + 1, s =>
    match encoderAgentStep (streamStep s) with
    | .next s' => runRounds k s'
    | .fault f => .fault f
    | .refused r => .refused r

end Sys2Proof.Machine
end

