-- ==== Sys2Proof/Certificates/Slice0/Obligations.lean ====
section
/-! DEFINITION. The statements for the provers: what the rules of the spec say the block does. -/

open Sys2Proof Sys2Proof.Machine

/-! ### Encoding -/

/-- The worked words of R91 and the illegal words W9 to W16 of 95_test_vectors.md decode as the spec says. -/
def Obligations.WorkedWordsDecode : Prop :=
  decode 0x1000000000000003#64 = .instr (.init 3) ∧
  decode 0x300A141E00000001#64 = .instr (.setvs 1 10 20 30) ∧
  decode 0x2000000500000002#64 = .instr (.setv 2 0 5) ∧
  decode 0x210000FF00000000#64 = .instr (.setv 0 1 255) ∧
  decode 0x2300000700000000#64 = .instr (.setv 0 3 7) ∧
  decode 0x4000000000000000#64 = .instr .clear ∧
  decode 0x8000000000000000#64 = .instr .evtHalf0 ∧
  decode 0x9000000000000000#64 = .instr .evtHalf1 ∧
  [0x0000000000000000#64, 0x5000000000000000#64, 0xFFFFFFFFFFFFFFFF#64, 0x1000000100000003#64,
    0x2400000000000000#64, 0x2001000000000000#64, 0x3F00000000000000#64, 0x4000000000000001#64].map
      (fun w => (decode w).toInstr?) = List.replicate 8 none

/-- Decoding the word of an instruction gives the instruction back, whatever its operands (R82, R83, R84). -/
def Obligations.DecodeOfEncodeIsTheInstruction : Prop :=
  ∀ i : Instr, decode (encode i) = .instr i ∧ decodeTableWord 64 (encode i).toNat = some i

/-- A word that decodes to an instruction is the word of that instruction: no legal word has a second spelling. -/
def Obligations.LegalWordIsTheEncodingOfItsInstruction : Prop :=
  ∀ (w : OpWord) (i : Instr), decode w = .instr i → encode i = w

/-- R89: every word is an instruction's or illegal, as the match and mask pairs say, and those are disjoint. -/
def Obligations.DecodeFollowsTheOpcodeTable : Prop :=
  ∀ w : OpWord,
    (∀ r₁ ∈ opcodeTable, ∀ r₂ ∈ opcodeTable, r₁.holds w = true → r₂.holds w = true → r₁ = r₂) ∧
    (∀ row ∈ opcodeTable, row.holds w = true → ∃ i, decode w = .instr i ∧ i.mnemonic = row.mnemonic) ∧
    (∀ i, decode w = .instr i → ∃ row ∈ opcodeTable, row.mnemonic = i.mnemonic ∧ row.holds w = true)

/-- R90: a trace line spells the word of its operation when its operands fit their fields, and no word otherwise. -/
def Obligations.TraceLineSpellsItsWord : Prop :=
  (∀ n, (TraceLine.init n).toWord? = if n < 2 ^ 32 then some (encode (.init (BitVec.ofNat 32 n))) else none) ∧
  (∀ i c v, (TraceLine.setv i c v).toWord? =
    if i < 2 ^ 32 ∧ c ≤ 3 ∧ v ≤ 255 then
      some (encode (.setv (BitVec.ofNat 32 i) (BitVec.ofNat 2 c) (BitVec.ofNat 8 v))) else none) ∧
  (∀ i r g b, (TraceLine.setvs i r g b).toWord? =
    if i < 2 ^ 32 ∧ r ≤ 255 ∧ g ≤ 255 ∧ b ≤ 255 then
      some (encode (.setvs (BitVec.ofNat 32 i) (BitVec.ofNat 8 r) (BitVec.ofNat 8 g) (BitVec.ofNat 8 b))) else none) ∧
  TraceLine.clear.toWord? = some (encode .clear) ∧
  TraceLine.evtHalf0.toWord? = some (encode .evtHalf0) ∧
  TraceLine.evtHalf1.toWord? = some (encode .evtHalf1)

/-! ### The step -/

/-- When it is the foreground's turn, no command is in progress and the host's next word decodes to a host command,
the step is that command's, with the move and the word used up (R100 (1)). -/
def Obligations.StepRunsTheDecodedCommand : Prop :=
  ∀ (s : State) (pick : Nat) (w : OpWord) (ws : List OpWord) (i : Instr),
    s.nextMove = .foreground pick → s.fgOp = none → s.words = w :: ws → decode w = .instr i → i.event? = none →
    step s = exec i { s.takeMove with words := ws }

/-- When it is the encoder's turn in a running block: with one event pending its step is the operation of that event;
with both, of the one raised earlier, `h = 1 - LAST_EVT`; with none, nothing happens (R130). -/
def Obligations.StepServicesThePendingEvent : Prop :=
  ∀ s : State, s.nextMove = .encoder → s.life = .running →
    (s.pending0 = true → s.pending1 = false → step s = exec .evtHalf0 s.takeMove) ∧
    (s.pending0 = false → s.pending1 = true → step s = exec .evtHalf1 s.takeMove) ∧
    (s.pending0 = true → s.pending1 = true → s.lastEvt = .second → step s = exec .evtHalf0 s.takeMove) ∧
    (s.pending0 = true → s.pending1 = true → s.lastEvt = .first → step s = exec .evtHalf1 s.takeMove) ∧
    (s.pending0 = false → s.pending1 = false → step s = .next s.takeMove)

/-- The model's loader (its choice, assumption log 6): after `withFetchWord` the next step runs the operation of the
word, a command with no other in progress, an event as the one pending event to be serviced first. -/
def Obligations.FetchWordRunsItsInstruction : Prop :=
  ∀ (s : State) (i : Instr),
    (i.event? = none → step (s.withFetchWord 64 (encode i).toNat) = exec i { s with fgOp := none }) ∧
    (∀ h, i.event? = some h → s.life = .running →
      step (s.withFetchWord 64 (encode i).toNat) =
        exec i { s.setPending h true with lastEvt := if s.pending h.other then h.other else s.lastEvt })

/-- R85: a word whose `OP` is reserved or whose must-be-zero fields are not all zero decodes to `illegal` and is
refused, and nothing else changes. -/
def Obligations.IllegalWordIsRefused : Prop :=
  ∀ (s : State) (pick : Nat) (w : OpWord) (ws : List OpWord),
    s.nextMove = .foreground pick → s.fgOp = none → s.words = w :: ws →
    ((w.extractLsb' 60 4).toNat ∈ [0, 5, 6, 7, 10, 11, 12, 13, 14, 15] ∨
      (w.extractLsb' 60 4 = 1#4 ∧ w.extractLsb' 32 28 ≠ 0) ∨
      (w.extractLsb' 60 4 = 2#4 ∧ (w.extractLsb' 58 2 ≠ 0 ∨ w.extractLsb' 40 16 ≠ 0)) ∨
      (w.extractLsb' 60 4 = 3#4 ∧ w.extractLsb' 56 4 ≠ 0) ∨
      (w.extractLsb' 60 4 = 4#4 ∧ w.extractLsb' 0 60 ≠ 0) ∨
      (w.extractLsb' 60 4 = 8#4 ∧ w.extractLsb' 0 60 ≠ 0) ∨
      (w.extractLsb' 60 4 = 9#4 ∧ w.extractLsb' 0 60 ≠ 0)) →
    (∃ why, decode w = .illegal why) ∧ step s = .next { s.takeMove with words := ws, refused := true }

/-- R87: an event word on the host command port is refused, and nothing else changes. -/
def Obligations.EventWordOnTheHostPortIsRefused : Prop :=
  ∀ (s : State) (pick : Nat) (w : OpWord) (ws : List OpWord),
    s.nextMove = .foreground pick → s.fgOp = none → s.words = w :: ws →
    (w = 0x8000000000000000#64 ∨ w = 0x9000000000000000#64) →
    step s = .next { s.takeMove with words := ws, refused := true }

/-- R245: before a successful `INIT` the mutators are refused and no stream or encoder step is enabled; after it
`INIT` is refused and the mutators are admitted. -/
def Obligations.AdmissionFollowsLife : Prop :=
  ∀ s : State,
    (s.life = .uninit →
      (∀ idx ch val, exec (.setv idx ch val) s = .next { s with refused := true }) ∧
      (∀ idx r g b, exec (.setvs idx r g b) s = .next { s with refused := true }) ∧
      exec .clear s = .next { s with refused := true } ∧
      agentStep .stream s = .next s ∧ agentStep .encoder s = .next s) ∧
    (s.life = .running →
      (∀ count, exec (.init count) s = .next { s with refused := true }) ∧
      (∀ idx ch val, ∃ t, exec (.setv idx ch val) s = .next t ∧ t.refused = s.refused) ∧
      (∀ idx r g b, ∃ t, exec (.setvs idx r g b) s = .next t ∧ t.refused = s.refused) ∧
      (∃ t, exec .clear s = .next t ∧ t.refused = s.refused))

/-! ### INIT -/

/-- R190, R194: `INIT` refuses `Reinit` and `ZeroLeds`, fails above the capacity or where the allocation fails, and
else sizes and zeroes the store, sets the encoder registers, starts the stream on half 0 and returns `OK`. Every other
part of the state is as it was; the draw `alloc_ok` is used up where it is taken. -/
def Obligations.InitFollowsItsRule : Prop :=
  ∀ (count : BitVec 32) (s : State),
    (s.life = .running → exec (.init count) s = .next { s with refused := true }) ∧
    (s.life = .uninit → count = 0 → exec (.init count) s = .next { s with refused := true }) ∧
    (s.life = .uninit → count ≠ 0 → s.cfg.ledCapacity < count.toNat →
      exec (.init count) s = .next { s with status := .allocFailure }) ∧
    (s.life = .uninit → count ≠ 0 → count.toNat ≤ s.cfg.ledCapacity → s.nextAlloc = false →
      exec (.init count) s = .next { s.takeAlloc with status := .allocFailure }) ∧
    (s.life = .uninit → count ≠ 0 → count.toNat ≤ s.cfg.ledCapacity → s.nextAlloc = true →
      ∃ t, exec (.init count) s = .next t ∧
        t = { s.takeAlloc with
              ledCount := count, led := t.led, encState := .reset, zhw := 2, resetCount := 0, cursor := 0,
              dirty := false, life := .running, started := true, curHalf := .first, slot := 0, pending0 := false,
              pending1 := false, trace := s.trace ++ [s.half .first], status := .ok } ∧
        (∀ i c, t.readLed i c = 0) ∧ t.led.wf = true)

/-- R192: `N` is written only by the step that takes the block from `UNINIT` to `RUNNING`, the block never leaves
`RUNNING`, and the parameters (carried in the state by the model's choice, assumption log 1) never change. -/
def Obligations.LedCountIsWrittenOnce : Prop :=
  ∀ s s' : State, step s = .next s' →
    s'.cfg = s.cfg ∧
    (s.life = .running → s'.life = .running ∧ s'.ledCount = s.ledCount) ∧
    (s'.life = .uninit → s'.ledCount = s.ledCount)

/-! ### The LED store commands -/

/-- The pseudocode of R102: `SETV` is refused before `INIT`; out of range it returns `OUT_OF_RANGE` and writes nothing
else; in range its issue makes the one byte write pending, and its two further micro-steps store the byte, set `DIRTY`,
return `OK`. That `IDX = N - 1` is in range, against the rule's own example, is the model's reading (assumption log 22). -/
def Obligations.SetvFollowsItsRule : Prop :=
  ∀ (idx : BitVec 32) (ch : BitVec 2) (val : Byte) (s : State),
    (s.life = .uninit → exec (.setv idx ch val) s = .next { s with refused := true }) ∧
    (s.life = .running → (s.ledCount.toNat ≤ idx.toNat ∨ 2 < ch.toNat) →
      exec (.setv idx ch val) s = .next { s with status := .outOfRange }) ∧
    (s.life = .running → idx.toNat < s.ledCount.toNat → ∀ c : Channel, ch.toNat = c.index →
      exec (.setv idx ch val) s =
        .next { s with fgOp := some ⟨.setv idx ch val, [⟨idx.toNat, c, val⟩], true⟩ } ∧
      ∀ p q, ∃ t,
        runForeground [p, q] { s with fgOp := some ⟨.setv idx ch val, [⟨idx.toNat, c, val⟩], true⟩ } = .next t ∧
        t = { s with led := t.led, dirty := true, status := .ok, fgOp := none } ∧
        (s.led.wf = true → ∀ i d, t.readLed i d = if i = idx.toNat ∧ d = c then val else s.readLed i d))

/-- R106, with the byte micro-steps R107 lists: `SETVS` is refused before `INIT`; out of range it returns `OUT_OF_RANGE` and writes nothing else; in
range its issue makes the three byte writes pending, and in whatever order they are taken, the LED holds the three
bytes at the end, every other cell is as it was, `DIRTY` is set and the status is `OK`. -/
def Obligations.SetvsFollowsItsRule : Prop :=
  ∀ (idx : BitVec 32) (r g b : Byte) (s : State),
    (s.life = .uninit → exec (.setvs idx r g b) s = .next { s with refused := true }) ∧
    (s.life = .running → s.ledCount.toNat ≤ idx.toNat →
      exec (.setvs idx r g b) s = .next { s with status := .outOfRange }) ∧
    (s.life = .running → idx.toNat < s.ledCount.toNat →
      exec (.setvs idx r g b) s =
        .next { s with fgOp := some ⟨.setvs idx r g b,
                  [⟨idx.toNat, .r, r⟩, ⟨idx.toNat, .g, g⟩, ⟨idx.toNat, .b, b⟩], true⟩ } ∧
      (s.led.wf = true → ∀ p₁ p₂ p₃ q, ∃ t,
        runForeground [p₁, p₂, p₃, q]
          { s with fgOp := some ⟨.setvs idx r g b,
              [⟨idx.toNat, .r, r⟩, ⟨idx.toNat, .g, g⟩, ⟨idx.toNat, .b, b⟩], true⟩ } = .next t ∧
        t = { s with led := t.led, dirty := true, status := .ok, fgOp := none } ∧
        t.readLed idx.toNat .r = r ∧ t.readLed idx.toNat .g = g ∧ t.readLed idx.toNat .b = b ∧
        (∀ i c, i ≠ idx.toNat → t.readLed i c = s.readLed i c)))

/-- R110, with the byte micro-steps R111 lists: `CLEAR` is refused before `INIT`; in a running block its issue makes a zero write of every cell of the
store pending and nothing else, and in whatever order the `3*N` writes are taken, the store is all zero at the end (the
empty list, so that a second `CLEAR` leaves the same store), `DIRTY` is set and the status is `OK`. -/
def Obligations.ClearFollowsItsRule : Prop :=
  ∀ s : State,
    (s.life = .uninit → exec .clear s = .next { s with refused := true }) ∧
    (s.life = .running → ∃ t op,
      exec .clear s = .next t ∧ t = { s with fgOp := some op } ∧ op.op = .clear ∧ op.dirtyPending = true ∧
      op.writes.length = 3 * s.ledCount.toNat ∧
      (∀ w, w ∈ op.writes ↔ w.led < s.ledCount.toNat ∧ w.value = 0) ∧
      (s.led.wf = true → s.led.within s.ledCount.toNat = true →
        ∀ ps q, ps.length = 3 * s.ledCount.toNat →
          runForeground (ps ++ [q]) t =
            .next { s with led := [], dirty := true, status := .ok, fgOp := none }))

/-- R100 (2), (3): while a command is in progress a foreground step takes one of its pending byte writes, any of them, and
changes nothing but that byte and the set of pending writes; when none is left it sets `DIRTY`, returns `OK` and ends
the command. It issues no new command. -/
def Obligations.MicroStepsOfACommand : Prop :=
  ∀ (s : State) (op : FgOp), s.fgOp = some op → op.dirtyPending = true →
    (∀ w ∈ op.writes, w.led < s.ledCount.toNat) →
    (op.writes = [] → ∀ pick, foregroundStep pick s =
      .next { s with dirty := true, status := .ok, fgOp := none }) ∧
    (∀ (k : Nat) (w : LedWrite), op.writes[k]? = some w → ∃ pick, foregroundStep pick s =
      .next { s with led := s.led.write (ledAddr w.led w.channel) w.value
                     fgOp := some { op with writes := op.writes.eraseIdx k } }) ∧
    (op.writes ≠ [] → ∀ pick, ∃ k w, op.writes[k]? = some w ∧ foregroundStep pick s =
      .next { s with led := s.led.write (ledAddr w.led w.channel) w.value
                     fgOp := some { op with writes := op.writes.eraseIdx k } })

/-- R114: in a running block no foreground step, neither the issue of a word nor a micro-step, changes anything but
the LED store, `DIRTY`, the command in progress, the status, the refusal mark and the host's words. -/
def Obligations.ForegroundLeavesTheEncoderAlone : Prop :=
  ∀ (s s' : State) (pick : Nat), s.life = .running → foregroundStep pick s = .next s' →
    s' = { s with led := s'.led, dirty := s'.dirty, fgOp := s'.fgOp, status := s'.status, refused := s'.refused,
                  words := s'.words } ∧
    (s.fgOp = none → s'.led = s.led ∧ s'.dirty = s.dirty)

/-- R29: `DIRTY` is set only by the final micro-step of a command, and cleared only by a successful `INIT` and by the
encoder step that starts a pass, at the end of RESET or in IDLE. -/
def Obligations.DirtyIsSetAndClearedOnlyByItsRules : Prop :=
  ∀ s s' : State, step s = .next s' →
    (s.dirty = false → s'.dirty = true →
      ∃ pick op, s.nextMove = .foreground pick ∧ s.fgOp = some op ∧ op.writes = [] ∧ s'.status = .ok ∧
        s'.fgOp = none) ∧
    (s.dirty = true → s'.dirty = false →
      (s.life = .uninit ∧ s'.life = .running) ∨
      (s.nextMove = .encoder ∧ s'.encState = .data ∧
        (s.encState = .idle ∨
          (s.encState = .reset ∧ s.zhw = 2 ∧ s.cfg.resetCycles ≤ s.resetCount))))

/-! ### The encoder step -/

/-- R131, R132, R133, R138: the rows of RESET, the first whose guard holds. Row 1 zero-fills the half of the event and
no other entry; row 2 counts; row 3 samples `DIRTY` and leaves RESET. Nothing else changes, the event of the half is
serviced, and `WLOG` records the one writing row. -/
def Obligations.ResetRowsFollowTheTable : Prop :=
  ∀ (h : Half) (s : State), s.encState = .reset →
    (s.zhw < 2 → ∃ t, exec (Instr.ofEvent h) s = .next t ∧ t.zhw.val = s.zhw.val + 1 ∧
      (∀ j : Fin 48, t.buf[j] = if j.val / 24 = h.index then 0 else s.buf[j]) ∧
      t = { s.setPending h false with
            encSteps := s.encSteps + 1, zhw := t.zhw, buf := t.buf
            wlog := s.wlog ++ [⟨s.encSteps + 1, h, .zero, Vector.replicate 24 0⟩] }) ∧
    (s.zhw = 2 → s.resetCount < s.cfg.resetCycles →
      exec (Instr.ofEvent h) s =
        .next { s.setPending h false with encSteps := s.encSteps + 1, resetCount := s.resetCount + 1 }) ∧
    (s.zhw = 2 → s.cfg.resetCycles ≤ s.resetCount → s.dirty = true →
      exec (Instr.ofEvent h) s =
        .next { s.setPending h false with
                encSteps := s.encSteps + 1, cursor := 0, dirty := false, encState := .data }) ∧
    (s.zhw = 2 → s.cfg.resetCycles ≤ s.resetCount → s.dirty = false →
      exec (Instr.ofEvent h) s =
        .next { s.setPending h false with encSteps := s.encSteps + 1, cursor := 0, encState := .idle })

/-- R134, R138: in IDLE the encoder step writes no buffer entry; where `DIRTY` is set it clears it and enters DATA,
else nothing changes but the serviced event. -/
def Obligations.IdleRowFollowsTheTable : Prop :=
  ∀ (h : Half) (s : State), s.encState = .idle →
    (s.dirty = true → exec (Instr.ofEvent h) s =
      .next { s.setPending h false with encSteps := s.encSteps + 1, dirty := false, encState := .data }) ∧
    (s.dirty = false → exec (Instr.ofEvent h) s =
      .next { s.setPending h false with encSteps := s.encSteps + 1 })

/-- R135, R136, R137, R138: in DATA the encoder step writes the 24 values of `LED[CURSOR]`, as the store is now, to
the half of the event: entry `24*h + 8*c + k` is the pulse of bit `7 - k` of channel `c` (R64). The other half is as it
was. At the last LED the pass ends in RESET; else the cursor moves on. Nothing else changes. -/
def Obligations.DataRowsFollowTheTable : Prop :=
  ∀ (h : Half) (s : State), s.encState = .data → s.cursor.toNat < s.ledCount.toNat →
    ∃ t, exec (Instr.ofEvent h) s = .next t ∧
      (∀ (c : Channel) (k : Nat) (j : Fin 48), k < 8 → j.val = 24 * h.index + 8 * c.index + k →
        t.buf[j] = if (s.readLed s.cursor.toNat c).getLsbD (7 - k) then s.cfg.tLong else s.cfg.tShort) ∧
      (∀ j : Fin 48, j.val / 24 ≠ h.index → t.buf[j] = s.buf[j]) ∧
      t = { s.setPending h false with
            encSteps := s.encSteps + 1, buf := t.buf, encState := t.encState, cursor := t.cursor, zhw := t.zhw
            resetCount := t.resetCount
            wlog := s.wlog ++ [⟨s.encSteps + 1, h, .led s.cursor.toNat, t.half h⟩] } ∧
      (s.cursor.toNat + 1 = s.ledCount.toNat → t.position = (.reset, 0, 0, 0)) ∧
      (s.cursor.toNat + 1 < s.ledCount.toNat →
        t.position = (.data, s.cursor + 1, s.resetCount, s.zhw) ∧ t.cursor.toNat = s.cursor.toNat + 1)

/-- R130: an encoder step for half `h` never writes the other half, the LED store, or anything of the foreground, of
the stream or of the faults; of the two events it clears the one it services. -/
def Obligations.EventFrame : Prop :=
  ∀ (h : Half) (s t : State), exec (Instr.ofEvent h) s = .next t →
    t.half h.other = s.half h.other ∧ t.pending h = false ∧ t.pending h.other = s.pending h.other ∧
    t = { s with encState := t.encState, cursor := t.cursor, resetCount := t.resetCount, zhw := t.zhw
                 dirty := t.dirty, buf := t.buf, wlog := t.wlog, encSteps := s.encSteps + 1
                 pending0 := t.pending0, pending1 := t.pending1 }

/-- The two event operations complete in every state but one in which DATA has no LED to encode, which no run reaches
(R130, R160); in such a state the model stops with a named fault (its choice, assumption log 14). -/
def Obligations.EventsCompleteWhereTheCursorIsInTheStore : Prop :=
  ∀ s : State,
    ((s.encState = .data → s.cursor.toNat < s.ledCount.toNat) →
      (∃ t, exec .evtHalf0 s = .next t) ∧ (∃ t, exec .evtHalf1 s = .next t)) ∧
    (s.encState = .data → s.ledCount.toNat ≤ s.cursor.toNat →
      exec .evtHalf0 s = .fault (.ledCellAbsent s.cursor.toNat .r) ∧
      exec .evtHalf1 s = .fault (.ledCellAbsent s.cursor.toNat .r))

/-- R130: an encoder step never reads the other half: with any other content there it does the same. -/
def Obligations.EventNeverReadsTheOtherHalf : Prop :=
  ∀ (h : Half) (d : HalfData) (s t : State), exec (Instr.ofEvent h) s = .next t →
    exec (Instr.ofEvent h) (s.writeHalf h.other d) = .next (t.writeHalf h.other d)

/-- R136, R137, C5: in DATA the encoder step neither reads nor writes `DIRTY`: with the other value it does the same
and leaves it. -/
def Obligations.DataNeverSamplesDirty : Prop :=
  ∀ (h : Half) (b : Bool) (s t : State), s.encState = .data → exec (Instr.ofEvent h) s = .next t →
    t.dirty = s.dirty ∧ exec (Instr.ofEvent h) { s with dirty := b } = .next { t with dirty := b }

/-! ### The colour table -/

/-- R170: element `k` of `CT(v)` is the long pulse where bit `7 - k` of `v` is 1, else the short one. -/
def Obligations.ColourTableFollowsItsRule : Prop :=
  ∀ (p : Params) (v : Byte) (k : Fin 8),
    (ct p v)[k] = if v[7 - k.val]'(by omega) = true then p.tLong else p.tShort

/-- R172: every element of every entry is `T_SHORT` or `T_LONG` and none is 0, for the parameters R6 admits; so every
entry a DATA step writes is a pulse, never the low period. -/
def Obligations.NoTableEntryIsZero : Prop :=
  ∀ p : Params, p.admitted = true →
    (∀ (v : Byte) (k : Fin 8), ((ct p v)[k] = p.tShort ∨ (ct p v)[k] = p.tLong) ∧ (ct p v)[k] ≠ 0) ∧
    (∀ (h : Half) (s t : State), s.cfg = p → s.encState = .data → exec (Instr.ofEvent h) s = .next t →
      ∀ k : Fin 24, ((t.half h)[k] = p.tShort ∨ (t.half h)[k] = p.tLong) ∧ (t.half h)[k] ≠ 0)

/-! ### The stream -/

/-- R212, with the snapshot of R213 and the `emit` of R214: where it is enabled the slot-end step raises the event of the half just consumed, records
`Overrun` and `Underrun` exactly where an event is still pending, and begins the other half, appending its 24 entries
in index order to `TRACE`; nothing else changes. Where it is not enabled the stream waits. -/
def Obligations.SlotEndFollowsItsRule : Prop :=
  ∀ s : State, s.life = .running →
    (s.started = true → (s.cfg.deadlineMet = true → s.pending s.curHalf.other = false) →
      ∃ (t : State) (v : HalfData), agentStep .stream s = .next t ∧
        (∀ (k : Fin 24) (j : Fin 48), j.val = 24 * s.curHalf.other.index + k.val → v[k] = s.buf[j]) ∧
        t.pending s.curHalf = true ∧ t.pending s.curHalf.other = s.pending s.curHalf.other ∧
        (∀ r, r ∈ t.faults ↔ r ∈ s.faults ∨
          (s.pending s.curHalf = true ∧ r = ⟨.overrun, s.curHalf, s.slot⟩) ∨
          (s.pending s.curHalf.other = true ∧ r = ⟨.underrun, s.curHalf.other, s.slot + 1⟩)) ∧
        t = { s with pending0 := t.pending0, pending1 := t.pending1, faults := t.faults, lastEvt := s.curHalf
                     curHalf := s.curHalf.other, slot := s.slot + 1, trace := s.trace ++ [v] }) ∧
    ((s.started = false ∨ (s.cfg.deadlineMet = true ∧ s.pending s.curHalf.other = true)) →
      agentStep .stream s = .next s)

/-! ### The whole machine -/

/-- R38, R242: `FAULTS` and `REFUSED` are empty and false at reset, no step removes a record or clears the mark, a
record is held once, and only a step of the stream adds one (R241). -/
def Obligations.FaultsAndRefusalsAreSticky : Prop :=
  State.reset.faults = [] ∧ State.reset.refused = false ∧
  ∀ s s' : State, step s = .next s' →
    (∀ r ∈ s.faults, r ∈ s'.faults) ∧ (s.refused = true → s'.refused = true) ∧
    (s.faults.Nodup → s'.faults.Nodup) ∧ (s'.faults ≠ s.faults → s.nextMove = .stream)

/-- R22, R31: in a running block only an encoder step moves the sequencer, writes the buffer or is logged, and of the
buffer only the half its event names. -/
def Obligations.OnlyTheEncoderMovesTheSequencer : Prop :=
  ∀ s s' : State, s.life = .running → step s = .next s' →
    (s.nextMove ≠ .encoder → s'.position = s.position ∧ s'.buf = s.buf ∧ s'.wlog = s.wlog) ∧
    (s.nextMove = .encoder →
      (∃ h, s.servicedHalf = some h ∧ s'.half h.other = s.half h.other) ∨ s' = s.takeMove)

/-- R164: in a running block DATA is left only for the start of RESET, IDLE only for DATA, and RESET only from its end
row, so RESET is never skipped between two passes. -/
def Obligations.ResetIsNeverSkipped : Prop :=
  ∀ s s' : State, s.life = .running → step s = .next s' →
    (s.encState = .data → s'.encState = .data ∨ s'.position = (.reset, 0, 0, 0)) ∧
    (s.encState = .idle → s'.encState = .idle ∨ s'.encState = .data) ∧
    (s.encState = .reset → s'.encState ≠ .reset →
      s.nextMove = .encoder ∧ s.zhw = 2 ∧ s.cfg.resetCycles ≤ s.resetCount ∧ s'.cursor = 0)

/-- The values R270 and R40 give at block reset. What a register without one holds is the model's choice (assumption
log 2) and is not stated. -/
def Obligations.ResetLeavesTheBlockUninitialised : Prop :=
  State.reset.life = .uninit ∧ (∀ j : Fin 48, State.reset.buf[j] = 0) ∧ State.reset.started = false ∧
  State.reset.pending0 = false ∧ State.reset.pending1 = false ∧ State.reset.fgOp = none ∧
  State.reset.trace = [] ∧ State.reset.wlog = [] ∧ State.reset.faults = [] ∧ State.reset.refused = false

/-- The state after reset meets the invariants. -/
def Obligations.ResetMeetsTheInvariants : Prop := SafeInv State.reset

/-- R160, R161, R162 and the store's invariants: every step keeps them. -/
def Obligations.StepKeepsTheInvariant : Prop :=
  ∀ s s' : State, Inv s → step s = .next s' → Inv s'

/-- R163, R212, R217: with the deadline met, every step of a running block keeps the halves in strict alternation,
records no fault, and keeps the zero halves of IDLE, RESET and the start of a pass. -/
def Obligations.StepKeepsTheDeadlineInvariant : Prop :=
  ∀ s s' : State, SafeInv s → step s = .next s' → SafeInv s'

/-- From a state that meets the invariant a step always answers a next state: no fault and no refusal stops a run. -/
def Obligations.StepNeverStopsARun : Prop :=
  ∀ s : State, Inv s → ∃ s', step s = .next s'

/-! ### Runs -/

/-- R164, R165: a RESET visit after a pass is two zero-fill steps, `RESET_CYCLES` counts and one end step, and the
first visit after `INIT` is `RESET_CYCLES` counts and one end step. From the second step on, both halves are zero in
the former. -/
def Obligations.ResetVisitTakesItsSteps : Prop :=
  ∀ (h : Half) (s : State), s.encState = .reset → s.resetCount = 0 →
    (s.zhw = 0 →
      (∀ k, k ≤ s.cfg.resetCycles + 2 → ∃ t, runEncoder k h s = .next t ∧ t.encState = .reset ∧
        t.zhw.val = min k 2 ∧ t.resetCount = k - 2 ∧ t.dirty = s.dirty ∧ (2 ≤ k → t.bufZero)) ∧
      (∃ t, runEncoder (s.cfg.resetCycles + 3) h s = .next t ∧ t.cursor = 0 ∧ t.dirty = false ∧
        t.encState = if s.dirty then .data else .idle)) ∧
    (s.zhw = 2 →
      (∀ k, k ≤ s.cfg.resetCycles → ∃ t, runEncoder k h s = .next t ∧ t.encState = .reset ∧ t.zhw = 2 ∧
        t.resetCount = k ∧ t.dirty = s.dirty ∧ t.buf = s.buf) ∧
      (∃ t, runEncoder (s.cfg.resetCycles + 1) h s = .next t ∧ t.cursor = 0 ∧ t.dirty = false ∧
        t.encState = if s.dirty then .data else .idle))

/-- R164, R167: a pass is exactly `N` DATA steps, and step `i` writes `CT(r_i) ++ CT(g_i) ++ CT(b_i)` of LED `i` to
the halves in turn; with no mutator inside it, every LED is as the store was at the first step. After step `k < N` the
cursor is `k`; after step `N` the encoder is in RESET. -/
def Obligations.PassEncodesEveryLedInOrder : Prop :=
  ∀ (h : Half) (s : State), s.encState = .data → s.cursor = 0 → 0 < s.ledCount.toNat →
    ∀ k, k ≤ s.ledCount.toNat → ∃ t, runEncoder k h s = .next t ∧
      t.led = s.led ∧ t.dirty = s.dirty ∧
      t.wlog = s.wlog ++ (List.range k).map (fun i =>
        ⟨s.encSteps + i + 1, if i % 2 = 0 then h else h.other, .led i,
          ct s.cfg (s.readLed i .r) ++ ct s.cfg (s.readLed i .g) ++ ct s.cfg (s.readLed i .b)⟩) ∧
      (k < s.ledCount.toNat → t.encState = .data ∧ t.cursor.toNat = k) ∧
      (k = s.ledCount.toNat → t.position = (.reset, 0, 0, 0))

/-- R165: from the start of a RESET visit with `DIRTY` set, a full RESET and pass is `RESET_CYCLES + 3 + N` encoder
steps and ends at the start of the next RESET visit. -/
def Obligations.FullCycleTakesItsSteps : Prop :=
  ∀ (h : Half) (s : State), s.position = (.reset, 0, 0, 0) → s.dirty = true → 0 < s.ledCount.toNat →
    ∃ t, runEncoder (s.cfg.resetCycles + 3 + s.ledCount.toNat) h s = .next t ∧
      t.position = (.reset, 0, 0, 0) ∧ t.dirty = false ∧ t.led = s.led

/-- R134, R166, C6: an update seen in IDLE makes the very next encoder step enter DATA, which writes no buffer entry,
and the step after it write LED 0 to the other half. -/
def Obligations.IdleUpdateIsWrittenTwoStepsLater : Prop :=
  ∀ (h : Half) (s : State), s.encState = .idle → s.dirty = true → s.cursor = 0 → 0 < s.ledCount.toNat →
    ∃ t₁ t₂, exec (Instr.ofEvent h) s = .next t₁ ∧ exec (Instr.ofEvent h.other) t₁ = .next t₂ ∧
      t₁.encState = .data ∧ t₁.dirty = false ∧ t₁.buf = s.buf ∧ t₁.wlog = s.wlog ∧
      t₂.half h.other = s.ledHalf 0 ∧ t₂.half h = s.half h ∧
      t₂.wlog = s.wlog ++ [⟨s.encSteps + 2, h.other, .led 0, s.ledHalf 0⟩]

/-- R218: with the deadline met and every event serviced, the next slot, number `k + 1` after `k >= 1` encoder steps,
shows half `(k - 1) mod 2` as the `k`-th encoder step left it. -/
def Obligations.StepIsOnTheWireInTheNextSlot : Prop :=
  ∀ s : State, SafeInv s → s.life = .running → s.cfg.deadlineMet = true →
    s.pending0 = false → s.pending1 = false → 1 ≤ s.encSteps →
    ∃ t, agentStep .stream s = .next t ∧ t.slot = s.encSteps + 1 ∧
      t.trace[s.encSteps + 1]? = some (s.half (Half.ofSlot (s.encSteps - 1)))

/-- R219: with the deadline met, from the end of a pass with `DIRTY` set, the canonical schedule emits the half of the
pass's last step, then exactly `RESET_CYCLES + 3` all-zero slots, and then LED 0 of the next pass. -/
def Obligations.LatchPeriodIsZeroSlots : Prop :=
  ∀ s : State, SafeInv s → s.life = .running → s.cfg.deadlineMet = true →
    s.position = (.reset, 0, 0, 0) → s.dirty = true → s.pending0 = false → s.pending1 = false →
    ∃ t, runRounds (s.cfg.resetCycles + 4) s = .next t ∧
      (streamStep t).trace =
        s.trace ++ [s.half s.curHalf.other] ++ List.replicate (s.cfg.resetCycles + 3) zeroHalf ++ [s.ledHalf 0]

/-- R219: with the deadline met and `DIRTY` set before the first end of RESET, the canonical schedule from `INIT` on
emits exactly `RESET_CYCLES + 3` all-zero slots, slot 0 among them, and then LED 0. -/
def Obligations.FirstLatchPeriodIsZeroSlots : Prop :=
  ∀ s : State, SafeInv s → s.life = .running → s.cfg.deadlineMet = true → s.encState = .reset → s.zhw = 2 →
    s.resetCount = 0 → s.dirty = true → s.pending0 = false → s.pending1 = false → s.trace = [zeroHalf] →
    ∃ t, runRounds (s.cfg.resetCycles + 2) s = .next t ∧
      (streamStep t).trace = List.replicate (s.cfg.resetCycles + 3) zeroHalf ++ [s.ledHalf 0]

/-- R107, R281, C5: the three writes of `SETVS` are not atomic with respect to the encoder: a DATA step for the LED
after the first of them encodes the new R with the old G and B, and `DIRTY` is not yet set. -/
def Obligations.TornUpdateIsARun : Prop :=
  ∀ (h : Half) (r g b : Byte) (s : State),
    s.life = .running → s.encState = .data → s.cursor.toNat < s.ledCount.toNat → s.led.wf = true →
    ∃ s₁ s₂ t, exec (.setvs s.cursor r g b) s = .next s₁ ∧ foregroundStep 0 s₁ = .next s₂ ∧
      exec (Instr.ofEvent h) s₂ = .next t ∧ t.dirty = s.dirty ∧
      t.half h = rgbHalf s.cfg r (s.readLed s.cursor.toNat .g) (s.readLed s.cursor.toNat .b)

/-! ### Progress -/

/-- R216: every run is weakly fair: a slot-end step that stays enabled is taken, a pending event is serviced, and a
command in progress completes. How the turns are owed is the model's choice (assumption log 17). -/
def Obligations.EveryRunIsFair : Prop := ∀ r : Nat → State, IsRun r → Fair r

/-- R216: from every state that meets the invariant there is a run, which never ends and never leaves the invariant. -/
def Obligations.RunsNeverEnd : Prop :=
  ∀ s : State, Inv s → ∃ r : Nat → State, r 0 = s ∧ IsRun r ∧ ∀ n, Inv (r n)

/-- R216, R257: in every run of a running block the stream begins slot after slot and the encoder takes step after
step, without end. -/
def Obligations.SlotsAndEncoderStepsNeverEnd : Prop :=
  ∀ r : Nat → State, IsRun r → Inv (r 0) → (r 0).life = .running →
    ∀ k, (∃ n, k ≤ (r n).slot) ∧ (∃ n, k ≤ (r n).encSteps)
end

