-- ==== Sys2Proof/Laws/State.lean ====
section
/-! SUPPORT. What each named update of the state leaves in each field, so that no proof unfolds a record update. -/

namespace Sys2Proof.Machine

/-! ### `State.writeLed` -/

@[simp] theorem State.writeLed_life (s : State) (i : Nat) (c : Channel) (v : Byte) : (s.writeLed i c v).life = s.life := rfl
@[simp] theorem State.writeLed_ledCount (s : State) (i : Nat) (c : Channel) (v : Byte) : (s.writeLed i c v).ledCount = s.ledCount := rfl
@[simp] theorem State.writeLed_encState (s : State) (i : Nat) (c : Channel) (v : Byte) : (s.writeLed i c v).encState = s.encState := rfl
@[simp] theorem State.writeLed_resetCount (s : State) (i : Nat) (c : Channel) (v : Byte) : (s.writeLed i c v).resetCount = s.resetCount := rfl
@[simp] theorem State.writeLed_zhw (s : State) (i : Nat) (c : Channel) (v : Byte) : (s.writeLed i c v).zhw = s.zhw := rfl
@[simp] theorem State.writeLed_cursor (s : State) (i : Nat) (c : Channel) (v : Byte) : (s.writeLed i c v).cursor = s.cursor := rfl
@[simp] theorem State.writeLed_dirty (s : State) (i : Nat) (c : Channel) (v : Byte) : (s.writeLed i c v).dirty = s.dirty := rfl
@[simp] theorem State.writeLed_led (s : State) (i : Nat) (c : Channel) (v : Byte) : (s.writeLed i c v).led = s.led.write (ledAddr i c) v := rfl
@[simp] theorem State.writeLed_buf (s : State) (i : Nat) (c : Channel) (v : Byte) : (s.writeLed i c v).buf = s.buf := rfl
@[simp] theorem State.writeLed_started (s : State) (i : Nat) (c : Channel) (v : Byte) : (s.writeLed i c v).started = s.started := rfl
@[simp] theorem State.writeLed_curHalf (s : State) (i : Nat) (c : Channel) (v : Byte) : (s.writeLed i c v).curHalf = s.curHalf := rfl
@[simp] theorem State.writeLed_slot (s : State) (i : Nat) (c : Channel) (v : Byte) : (s.writeLed i c v).slot = s.slot := rfl
@[simp] theorem State.writeLed_pending0 (s : State) (i : Nat) (c : Channel) (v : Byte) : (s.writeLed i c v).pending0 = s.pending0 := rfl
@[simp] theorem State.writeLed_pending1 (s : State) (i : Nat) (c : Channel) (v : Byte) : (s.writeLed i c v).pending1 = s.pending1 := rfl
@[simp] theorem State.writeLed_lastEvt (s : State) (i : Nat) (c : Channel) (v : Byte) : (s.writeLed i c v).lastEvt = s.lastEvt := rfl
@[simp] theorem State.writeLed_fgOp (s : State) (i : Nat) (c : Channel) (v : Byte) : (s.writeLed i c v).fgOp = s.fgOp := rfl
@[simp] theorem State.writeLed_status (s : State) (i : Nat) (c : Channel) (v : Byte) : (s.writeLed i c v).status = s.status := rfl
@[simp] theorem State.writeLed_trace (s : State) (i : Nat) (c : Channel) (v : Byte) : (s.writeLed i c v).trace = s.trace := rfl
@[simp] theorem State.writeLed_wlog (s : State) (i : Nat) (c : Channel) (v : Byte) : (s.writeLed i c v).wlog = s.wlog := rfl
@[simp] theorem State.writeLed_encSteps (s : State) (i : Nat) (c : Channel) (v : Byte) : (s.writeLed i c v).encSteps = s.encSteps := rfl
@[simp] theorem State.writeLed_faults (s : State) (i : Nat) (c : Channel) (v : Byte) : (s.writeLed i c v).faults = s.faults := rfl
@[simp] theorem State.writeLed_refused (s : State) (i : Nat) (c : Channel) (v : Byte) : (s.writeLed i c v).refused = s.refused := rfl
@[simp] theorem State.writeLed_cfg (s : State) (i : Nat) (c : Channel) (v : Byte) : (s.writeLed i c v).cfg = s.cfg := rfl
@[simp] theorem State.writeLed_words (s : State) (i : Nat) (c : Channel) (v : Byte) : (s.writeLed i c v).words = s.words := rfl
@[simp] theorem State.writeLed_moves (s : State) (i : Nat) (c : Channel) (v : Byte) : (s.writeLed i c v).moves = s.moves := rfl
@[simp] theorem State.writeLed_allocs (s : State) (i : Nat) (c : Channel) (v : Byte) : (s.writeLed i c v).allocs = s.allocs := rfl
@[simp] theorem State.writeLed_drawn (s : State) (i : Nat) (c : Channel) (v : Byte) : (s.writeLed i c v).drawn = s.drawn := rfl
@[simp] theorem State.writeLed_rounds (s : State) (i : Nat) (c : Channel) (v : Byte) : (s.writeLed i c v).rounds = s.rounds := rfl

/-! ### `State.writeHalf` -/

@[simp] theorem State.writeHalf_life (s : State) (h : Half) (d : HalfData) : (s.writeHalf h d).life = s.life := rfl
@[simp] theorem State.writeHalf_ledCount (s : State) (h : Half) (d : HalfData) : (s.writeHalf h d).ledCount = s.ledCount := rfl
@[simp] theorem State.writeHalf_encState (s : State) (h : Half) (d : HalfData) : (s.writeHalf h d).encState = s.encState := rfl
@[simp] theorem State.writeHalf_resetCount (s : State) (h : Half) (d : HalfData) : (s.writeHalf h d).resetCount = s.resetCount := rfl
@[simp] theorem State.writeHalf_zhw (s : State) (h : Half) (d : HalfData) : (s.writeHalf h d).zhw = s.zhw := rfl
@[simp] theorem State.writeHalf_cursor (s : State) (h : Half) (d : HalfData) : (s.writeHalf h d).cursor = s.cursor := rfl
@[simp] theorem State.writeHalf_dirty (s : State) (h : Half) (d : HalfData) : (s.writeHalf h d).dirty = s.dirty := rfl
@[simp] theorem State.writeHalf_led (s : State) (h : Half) (d : HalfData) : (s.writeHalf h d).led = s.led := rfl
@[simp] theorem State.writeHalf_buf (s : State) (h : Half) (d : HalfData) : (s.writeHalf h d).buf = setHalf s.buf h d := rfl
@[simp] theorem State.writeHalf_started (s : State) (h : Half) (d : HalfData) : (s.writeHalf h d).started = s.started := rfl
@[simp] theorem State.writeHalf_curHalf (s : State) (h : Half) (d : HalfData) : (s.writeHalf h d).curHalf = s.curHalf := rfl
@[simp] theorem State.writeHalf_slot (s : State) (h : Half) (d : HalfData) : (s.writeHalf h d).slot = s.slot := rfl
@[simp] theorem State.writeHalf_pending0 (s : State) (h : Half) (d : HalfData) : (s.writeHalf h d).pending0 = s.pending0 := rfl
@[simp] theorem State.writeHalf_pending1 (s : State) (h : Half) (d : HalfData) : (s.writeHalf h d).pending1 = s.pending1 := rfl
@[simp] theorem State.writeHalf_lastEvt (s : State) (h : Half) (d : HalfData) : (s.writeHalf h d).lastEvt = s.lastEvt := rfl
@[simp] theorem State.writeHalf_fgOp (s : State) (h : Half) (d : HalfData) : (s.writeHalf h d).fgOp = s.fgOp := rfl
@[simp] theorem State.writeHalf_status (s : State) (h : Half) (d : HalfData) : (s.writeHalf h d).status = s.status := rfl
@[simp] theorem State.writeHalf_trace (s : State) (h : Half) (d : HalfData) : (s.writeHalf h d).trace = s.trace := rfl
@[simp] theorem State.writeHalf_wlog (s : State) (h : Half) (d : HalfData) : (s.writeHalf h d).wlog = s.wlog := rfl
@[simp] theorem State.writeHalf_encSteps (s : State) (h : Half) (d : HalfData) : (s.writeHalf h d).encSteps = s.encSteps := rfl
@[simp] theorem State.writeHalf_faults (s : State) (h : Half) (d : HalfData) : (s.writeHalf h d).faults = s.faults := rfl
@[simp] theorem State.writeHalf_refused (s : State) (h : Half) (d : HalfData) : (s.writeHalf h d).refused = s.refused := rfl
@[simp] theorem State.writeHalf_cfg (s : State) (h : Half) (d : HalfData) : (s.writeHalf h d).cfg = s.cfg := rfl
@[simp] theorem State.writeHalf_words (s : State) (h : Half) (d : HalfData) : (s.writeHalf h d).words = s.words := rfl
@[simp] theorem State.writeHalf_moves (s : State) (h : Half) (d : HalfData) : (s.writeHalf h d).moves = s.moves := rfl
@[simp] theorem State.writeHalf_allocs (s : State) (h : Half) (d : HalfData) : (s.writeHalf h d).allocs = s.allocs := rfl
@[simp] theorem State.writeHalf_drawn (s : State) (h : Half) (d : HalfData) : (s.writeHalf h d).drawn = s.drawn := rfl
@[simp] theorem State.writeHalf_rounds (s : State) (h : Half) (d : HalfData) : (s.writeHalf h d).rounds = s.rounds := rfl

/-! ### `State.logWrite` -/

@[simp] theorem State.logWrite_life (s : State) (h : Half) (k : WriteKind) (d : HalfData) : (s.logWrite h k d).life = s.life := rfl
@[simp] theorem State.logWrite_ledCount (s : State) (h : Half) (k : WriteKind) (d : HalfData) : (s.logWrite h k d).ledCount = s.ledCount := rfl
@[simp] theorem State.logWrite_encState (s : State) (h : Half) (k : WriteKind) (d : HalfData) : (s.logWrite h k d).encState = s.encState := rfl
@[simp] theorem State.logWrite_resetCount (s : State) (h : Half) (k : WriteKind) (d : HalfData) : (s.logWrite h k d).resetCount = s.resetCount := rfl
@[simp] theorem State.logWrite_zhw (s : State) (h : Half) (k : WriteKind) (d : HalfData) : (s.logWrite h k d).zhw = s.zhw := rfl
@[simp] theorem State.logWrite_cursor (s : State) (h : Half) (k : WriteKind) (d : HalfData) : (s.logWrite h k d).cursor = s.cursor := rfl
@[simp] theorem State.logWrite_dirty (s : State) (h : Half) (k : WriteKind) (d : HalfData) : (s.logWrite h k d).dirty = s.dirty := rfl
@[simp] theorem State.logWrite_led (s : State) (h : Half) (k : WriteKind) (d : HalfData) : (s.logWrite h k d).led = s.led := rfl
@[simp] theorem State.logWrite_buf (s : State) (h : Half) (k : WriteKind) (d : HalfData) : (s.logWrite h k d).buf = s.buf := rfl
@[simp] theorem State.logWrite_started (s : State) (h : Half) (k : WriteKind) (d : HalfData) : (s.logWrite h k d).started = s.started := rfl
@[simp] theorem State.logWrite_curHalf (s : State) (h : Half) (k : WriteKind) (d : HalfData) : (s.logWrite h k d).curHalf = s.curHalf := rfl
@[simp] theorem State.logWrite_slot (s : State) (h : Half) (k : WriteKind) (d : HalfData) : (s.logWrite h k d).slot = s.slot := rfl
@[simp] theorem State.logWrite_pending0 (s : State) (h : Half) (k : WriteKind) (d : HalfData) : (s.logWrite h k d).pending0 = s.pending0 := rfl
@[simp] theorem State.logWrite_pending1 (s : State) (h : Half) (k : WriteKind) (d : HalfData) : (s.logWrite h k d).pending1 = s.pending1 := rfl
@[simp] theorem State.logWrite_lastEvt (s : State) (h : Half) (k : WriteKind) (d : HalfData) : (s.logWrite h k d).lastEvt = s.lastEvt := rfl
@[simp] theorem State.logWrite_fgOp (s : State) (h : Half) (k : WriteKind) (d : HalfData) : (s.logWrite h k d).fgOp = s.fgOp := rfl
@[simp] theorem State.logWrite_status (s : State) (h : Half) (k : WriteKind) (d : HalfData) : (s.logWrite h k d).status = s.status := rfl
@[simp] theorem State.logWrite_trace (s : State) (h : Half) (k : WriteKind) (d : HalfData) : (s.logWrite h k d).trace = s.trace := rfl
@[simp] theorem State.logWrite_wlog (s : State) (h : Half) (k : WriteKind) (d : HalfData) : (s.logWrite h k d).wlog = s.wlog ++ [⟨s.encSteps, h, k, d⟩] := rfl
@[simp] theorem State.logWrite_encSteps (s : State) (h : Half) (k : WriteKind) (d : HalfData) : (s.logWrite h k d).encSteps = s.encSteps := rfl
@[simp] theorem State.logWrite_faults (s : State) (h : Half) (k : WriteKind) (d : HalfData) : (s.logWrite h k d).faults = s.faults := rfl
@[simp] theorem State.logWrite_refused (s : State) (h : Half) (k : WriteKind) (d : HalfData) : (s.logWrite h k d).refused = s.refused := rfl
@[simp] theorem State.logWrite_cfg (s : State) (h : Half) (k : WriteKind) (d : HalfData) : (s.logWrite h k d).cfg = s.cfg := rfl
@[simp] theorem State.logWrite_words (s : State) (h : Half) (k : WriteKind) (d : HalfData) : (s.logWrite h k d).words = s.words := rfl
@[simp] theorem State.logWrite_moves (s : State) (h : Half) (k : WriteKind) (d : HalfData) : (s.logWrite h k d).moves = s.moves := rfl
@[simp] theorem State.logWrite_allocs (s : State) (h : Half) (k : WriteKind) (d : HalfData) : (s.logWrite h k d).allocs = s.allocs := rfl
@[simp] theorem State.logWrite_drawn (s : State) (h : Half) (k : WriteKind) (d : HalfData) : (s.logWrite h k d).drawn = s.drawn := rfl
@[simp] theorem State.logWrite_rounds (s : State) (h : Half) (k : WriteKind) (d : HalfData) : (s.logWrite h k d).rounds = s.rounds := rfl

/-! ### `State.returnStatus` -/

@[simp] theorem State.returnStatus_life (s : State) (st : Status) : (s.returnStatus st).life = s.life := rfl
@[simp] theorem State.returnStatus_ledCount (s : State) (st : Status) : (s.returnStatus st).ledCount = s.ledCount := rfl
@[simp] theorem State.returnStatus_encState (s : State) (st : Status) : (s.returnStatus st).encState = s.encState := rfl
@[simp] theorem State.returnStatus_resetCount (s : State) (st : Status) : (s.returnStatus st).resetCount = s.resetCount := rfl
@[simp] theorem State.returnStatus_zhw (s : State) (st : Status) : (s.returnStatus st).zhw = s.zhw := rfl
@[simp] theorem State.returnStatus_cursor (s : State) (st : Status) : (s.returnStatus st).cursor = s.cursor := rfl
@[simp] theorem State.returnStatus_dirty (s : State) (st : Status) : (s.returnStatus st).dirty = s.dirty := rfl
@[simp] theorem State.returnStatus_led (s : State) (st : Status) : (s.returnStatus st).led = s.led := rfl
@[simp] theorem State.returnStatus_buf (s : State) (st : Status) : (s.returnStatus st).buf = s.buf := rfl
@[simp] theorem State.returnStatus_started (s : State) (st : Status) : (s.returnStatus st).started = s.started := rfl
@[simp] theorem State.returnStatus_curHalf (s : State) (st : Status) : (s.returnStatus st).curHalf = s.curHalf := rfl
@[simp] theorem State.returnStatus_slot (s : State) (st : Status) : (s.returnStatus st).slot = s.slot := rfl
@[simp] theorem State.returnStatus_pending0 (s : State) (st : Status) : (s.returnStatus st).pending0 = s.pending0 := rfl
@[simp] theorem State.returnStatus_pending1 (s : State) (st : Status) : (s.returnStatus st).pending1 = s.pending1 := rfl
@[simp] theorem State.returnStatus_lastEvt (s : State) (st : Status) : (s.returnStatus st).lastEvt = s.lastEvt := rfl
@[simp] theorem State.returnStatus_fgOp (s : State) (st : Status) : (s.returnStatus st).fgOp = s.fgOp := rfl
@[simp] theorem State.returnStatus_status (s : State) (st : Status) : (s.returnStatus st).status = st := rfl
@[simp] theorem State.returnStatus_trace (s : State) (st : Status) : (s.returnStatus st).trace = s.trace := rfl
@[simp] theorem State.returnStatus_wlog (s : State) (st : Status) : (s.returnStatus st).wlog = s.wlog := rfl
@[simp] theorem State.returnStatus_encSteps (s : State) (st : Status) : (s.returnStatus st).encSteps = s.encSteps := rfl
@[simp] theorem State.returnStatus_faults (s : State) (st : Status) : (s.returnStatus st).faults = s.faults := rfl
@[simp] theorem State.returnStatus_refused (s : State) (st : Status) : (s.returnStatus st).refused = s.refused := rfl
@[simp] theorem State.returnStatus_cfg (s : State) (st : Status) : (s.returnStatus st).cfg = s.cfg := rfl
@[simp] theorem State.returnStatus_words (s : State) (st : Status) : (s.returnStatus st).words = s.words := rfl
@[simp] theorem State.returnStatus_moves (s : State) (st : Status) : (s.returnStatus st).moves = s.moves := rfl
@[simp] theorem State.returnStatus_allocs (s : State) (st : Status) : (s.returnStatus st).allocs = s.allocs := rfl
@[simp] theorem State.returnStatus_drawn (s : State) (st : Status) : (s.returnStatus st).drawn = s.drawn := rfl
@[simp] theorem State.returnStatus_rounds (s : State) (st : Status) : (s.returnStatus st).rounds = s.rounds := rfl

/-! ### `State.refuse` -/

@[simp] theorem State.refuse_life (s : State) (why : RefuseReason) : (s.refuse why).life = s.life := rfl
@[simp] theorem State.refuse_ledCount (s : State) (why : RefuseReason) : (s.refuse why).ledCount = s.ledCount := rfl
@[simp] theorem State.refuse_encState (s : State) (why : RefuseReason) : (s.refuse why).encState = s.encState := rfl
@[simp] theorem State.refuse_resetCount (s : State) (why : RefuseReason) : (s.refuse why).resetCount = s.resetCount := rfl
@[simp] theorem State.refuse_zhw (s : State) (why : RefuseReason) : (s.refuse why).zhw = s.zhw := rfl
@[simp] theorem State.refuse_cursor (s : State) (why : RefuseReason) : (s.refuse why).cursor = s.cursor := rfl
@[simp] theorem State.refuse_dirty (s : State) (why : RefuseReason) : (s.refuse why).dirty = s.dirty := rfl
@[simp] theorem State.refuse_led (s : State) (why : RefuseReason) : (s.refuse why).led = s.led := rfl
@[simp] theorem State.refuse_buf (s : State) (why : RefuseReason) : (s.refuse why).buf = s.buf := rfl
@[simp] theorem State.refuse_started (s : State) (why : RefuseReason) : (s.refuse why).started = s.started := rfl
@[simp] theorem State.refuse_curHalf (s : State) (why : RefuseReason) : (s.refuse why).curHalf = s.curHalf := rfl
@[simp] theorem State.refuse_slot (s : State) (why : RefuseReason) : (s.refuse why).slot = s.slot := rfl
@[simp] theorem State.refuse_pending0 (s : State) (why : RefuseReason) : (s.refuse why).pending0 = s.pending0 := rfl
@[simp] theorem State.refuse_pending1 (s : State) (why : RefuseReason) : (s.refuse why).pending1 = s.pending1 := rfl
@[simp] theorem State.refuse_lastEvt (s : State) (why : RefuseReason) : (s.refuse why).lastEvt = s.lastEvt := rfl
@[simp] theorem State.refuse_fgOp (s : State) (why : RefuseReason) : (s.refuse why).fgOp = s.fgOp := rfl
@[simp] theorem State.refuse_status (s : State) (why : RefuseReason) : (s.refuse why).status = s.status := rfl
@[simp] theorem State.refuse_trace (s : State) (why : RefuseReason) : (s.refuse why).trace = s.trace := rfl
@[simp] theorem State.refuse_wlog (s : State) (why : RefuseReason) : (s.refuse why).wlog = s.wlog := rfl
@[simp] theorem State.refuse_encSteps (s : State) (why : RefuseReason) : (s.refuse why).encSteps = s.encSteps := rfl
@[simp] theorem State.refuse_faults (s : State) (why : RefuseReason) : (s.refuse why).faults = s.faults := rfl
@[simp] theorem State.refuse_refused (s : State) (why : RefuseReason) : (s.refuse why).refused = true := rfl
@[simp] theorem State.refuse_cfg (s : State) (why : RefuseReason) : (s.refuse why).cfg = s.cfg := rfl
@[simp] theorem State.refuse_words (s : State) (why : RefuseReason) : (s.refuse why).words = s.words := rfl
@[simp] theorem State.refuse_moves (s : State) (why : RefuseReason) : (s.refuse why).moves = s.moves := rfl
@[simp] theorem State.refuse_allocs (s : State) (why : RefuseReason) : (s.refuse why).allocs = s.allocs := rfl
@[simp] theorem State.refuse_drawn (s : State) (why : RefuseReason) : (s.refuse why).drawn = s.drawn := rfl
@[simp] theorem State.refuse_rounds (s : State) (why : RefuseReason) : (s.refuse why).rounds = s.rounds := rfl

/-! ### `State.raise` -/

@[simp] theorem State.raise_life (s : State) (f : StreamFault) (h : Half) (n : Nat) : (s.raise f h n).life = s.life := rfl
@[simp] theorem State.raise_ledCount (s : State) (f : StreamFault) (h : Half) (n : Nat) : (s.raise f h n).ledCount = s.ledCount := rfl
@[simp] theorem State.raise_encState (s : State) (f : StreamFault) (h : Half) (n : Nat) : (s.raise f h n).encState = s.encState := rfl
@[simp] theorem State.raise_resetCount (s : State) (f : StreamFault) (h : Half) (n : Nat) : (s.raise f h n).resetCount = s.resetCount := rfl
@[simp] theorem State.raise_zhw (s : State) (f : StreamFault) (h : Half) (n : Nat) : (s.raise f h n).zhw = s.zhw := rfl
@[simp] theorem State.raise_cursor (s : State) (f : StreamFault) (h : Half) (n : Nat) : (s.raise f h n).cursor = s.cursor := rfl
@[simp] theorem State.raise_dirty (s : State) (f : StreamFault) (h : Half) (n : Nat) : (s.raise f h n).dirty = s.dirty := rfl
@[simp] theorem State.raise_led (s : State) (f : StreamFault) (h : Half) (n : Nat) : (s.raise f h n).led = s.led := rfl
@[simp] theorem State.raise_buf (s : State) (f : StreamFault) (h : Half) (n : Nat) : (s.raise f h n).buf = s.buf := rfl
@[simp] theorem State.raise_started (s : State) (f : StreamFault) (h : Half) (n : Nat) : (s.raise f h n).started = s.started := rfl
@[simp] theorem State.raise_curHalf (s : State) (f : StreamFault) (h : Half) (n : Nat) : (s.raise f h n).curHalf = s.curHalf := rfl
@[simp] theorem State.raise_slot (s : State) (f : StreamFault) (h : Half) (n : Nat) : (s.raise f h n).slot = s.slot := rfl
@[simp] theorem State.raise_pending0 (s : State) (f : StreamFault) (h : Half) (n : Nat) : (s.raise f h n).pending0 = s.pending0 := rfl
@[simp] theorem State.raise_pending1 (s : State) (f : StreamFault) (h : Half) (n : Nat) : (s.raise f h n).pending1 = s.pending1 := rfl
@[simp] theorem State.raise_lastEvt (s : State) (f : StreamFault) (h : Half) (n : Nat) : (s.raise f h n).lastEvt = s.lastEvt := rfl
@[simp] theorem State.raise_fgOp (s : State) (f : StreamFault) (h : Half) (n : Nat) : (s.raise f h n).fgOp = s.fgOp := rfl
@[simp] theorem State.raise_status (s : State) (f : StreamFault) (h : Half) (n : Nat) : (s.raise f h n).status = s.status := rfl
@[simp] theorem State.raise_trace (s : State) (f : StreamFault) (h : Half) (n : Nat) : (s.raise f h n).trace = s.trace := rfl
@[simp] theorem State.raise_wlog (s : State) (f : StreamFault) (h : Half) (n : Nat) : (s.raise f h n).wlog = s.wlog := rfl
@[simp] theorem State.raise_encSteps (s : State) (f : StreamFault) (h : Half) (n : Nat) : (s.raise f h n).encSteps = s.encSteps := rfl
@[simp] theorem State.raise_faults (s : State) (f : StreamFault) (h : Half) (n : Nat) : (s.raise f h n).faults = if ⟨f, h, n⟩ ∈ s.faults then s.faults else s.faults ++ [⟨f, h, n⟩] := rfl
@[simp] theorem State.raise_refused (s : State) (f : StreamFault) (h : Half) (n : Nat) : (s.raise f h n).refused = s.refused := rfl
@[simp] theorem State.raise_cfg (s : State) (f : StreamFault) (h : Half) (n : Nat) : (s.raise f h n).cfg = s.cfg := rfl
@[simp] theorem State.raise_words (s : State) (f : StreamFault) (h : Half) (n : Nat) : (s.raise f h n).words = s.words := rfl
@[simp] theorem State.raise_moves (s : State) (f : StreamFault) (h : Half) (n : Nat) : (s.raise f h n).moves = s.moves := rfl
@[simp] theorem State.raise_allocs (s : State) (f : StreamFault) (h : Half) (n : Nat) : (s.raise f h n).allocs = s.allocs := rfl
@[simp] theorem State.raise_drawn (s : State) (f : StreamFault) (h : Half) (n : Nat) : (s.raise f h n).drawn = s.drawn := rfl
@[simp] theorem State.raise_rounds (s : State) (f : StreamFault) (h : Half) (n : Nat) : (s.raise f h n).rounds = s.rounds := rfl

/-! ### `State.setPending` -/

@[simp] theorem State.setPending_life (s : State) (h : Half) (b : Bool) : (s.setPending h b).life = s.life := by cases h <;> rfl
@[simp] theorem State.setPending_ledCount (s : State) (h : Half) (b : Bool) : (s.setPending h b).ledCount = s.ledCount := by cases h <;> rfl
@[simp] theorem State.setPending_encState (s : State) (h : Half) (b : Bool) : (s.setPending h b).encState = s.encState := by cases h <;> rfl
@[simp] theorem State.setPending_resetCount (s : State) (h : Half) (b : Bool) : (s.setPending h b).resetCount = s.resetCount := by cases h <;> rfl
@[simp] theorem State.setPending_zhw (s : State) (h : Half) (b : Bool) : (s.setPending h b).zhw = s.zhw := by cases h <;> rfl
@[simp] theorem State.setPending_cursor (s : State) (h : Half) (b : Bool) : (s.setPending h b).cursor = s.cursor := by cases h <;> rfl
@[simp] theorem State.setPending_dirty (s : State) (h : Half) (b : Bool) : (s.setPending h b).dirty = s.dirty := by cases h <;> rfl
@[simp] theorem State.setPending_led (s : State) (h : Half) (b : Bool) : (s.setPending h b).led = s.led := by cases h <;> rfl
@[simp] theorem State.setPending_buf (s : State) (h : Half) (b : Bool) : (s.setPending h b).buf = s.buf := by cases h <;> rfl
@[simp] theorem State.setPending_started (s : State) (h : Half) (b : Bool) : (s.setPending h b).started = s.started := by cases h <;> rfl
@[simp] theorem State.setPending_curHalf (s : State) (h : Half) (b : Bool) : (s.setPending h b).curHalf = s.curHalf := by cases h <;> rfl
@[simp] theorem State.setPending_slot (s : State) (h : Half) (b : Bool) : (s.setPending h b).slot = s.slot := by cases h <;> rfl
@[simp] theorem State.setPending_pending0 (s : State) (h : Half) (b : Bool) : (s.setPending h b).pending0 = if h = .first then b else s.pending0 := by cases h <;> rfl
@[simp] theorem State.setPending_pending1 (s : State) (h : Half) (b : Bool) : (s.setPending h b).pending1 = if h = .second then b else s.pending1 := by cases h <;> rfl
@[simp] theorem State.setPending_lastEvt (s : State) (h : Half) (b : Bool) : (s.setPending h b).lastEvt = s.lastEvt := by cases h <;> rfl
@[simp] theorem State.setPending_fgOp (s : State) (h : Half) (b : Bool) : (s.setPending h b).fgOp = s.fgOp := by cases h <;> rfl
@[simp] theorem State.setPending_status (s : State) (h : Half) (b : Bool) : (s.setPending h b).status = s.status := by cases h <;> rfl
@[simp] theorem State.setPending_trace (s : State) (h : Half) (b : Bool) : (s.setPending h b).trace = s.trace := by cases h <;> rfl
@[simp] theorem State.setPending_wlog (s : State) (h : Half) (b : Bool) : (s.setPending h b).wlog = s.wlog := by cases h <;> rfl
@[simp] theorem State.setPending_encSteps (s : State) (h : Half) (b : Bool) : (s.setPending h b).encSteps = s.encSteps := by cases h <;> rfl
@[simp] theorem State.setPending_faults (s : State) (h : Half) (b : Bool) : (s.setPending h b).faults = s.faults := by cases h <;> rfl
@[simp] theorem State.setPending_refused (s : State) (h : Half) (b : Bool) : (s.setPending h b).refused = s.refused := by cases h <;> rfl
@[simp] theorem State.setPending_cfg (s : State) (h : Half) (b : Bool) : (s.setPending h b).cfg = s.cfg := by cases h <;> rfl
@[simp] theorem State.setPending_words (s : State) (h : Half) (b : Bool) : (s.setPending h b).words = s.words := by cases h <;> rfl
@[simp] theorem State.setPending_moves (s : State) (h : Half) (b : Bool) : (s.setPending h b).moves = s.moves := by cases h <;> rfl
@[simp] theorem State.setPending_allocs (s : State) (h : Half) (b : Bool) : (s.setPending h b).allocs = s.allocs := by cases h <;> rfl
@[simp] theorem State.setPending_drawn (s : State) (h : Half) (b : Bool) : (s.setPending h b).drawn = s.drawn := by cases h <;> rfl
@[simp] theorem State.setPending_rounds (s : State) (h : Half) (b : Bool) : (s.setPending h b).rounds = s.rounds := by cases h <;> rfl

/-! ### `State.raiseEvent` -/

@[simp] theorem State.raiseEvent_life (s : State) (h : Half) : (s.raiseEvent h).life = s.life := by cases h <;> rfl
@[simp] theorem State.raiseEvent_ledCount (s : State) (h : Half) : (s.raiseEvent h).ledCount = s.ledCount := by cases h <;> rfl
@[simp] theorem State.raiseEvent_encState (s : State) (h : Half) : (s.raiseEvent h).encState = s.encState := by cases h <;> rfl
@[simp] theorem State.raiseEvent_resetCount (s : State) (h : Half) : (s.raiseEvent h).resetCount = s.resetCount := by cases h <;> rfl
@[simp] theorem State.raiseEvent_zhw (s : State) (h : Half) : (s.raiseEvent h).zhw = s.zhw := by cases h <;> rfl
@[simp] theorem State.raiseEvent_cursor (s : State) (h : Half) : (s.raiseEvent h).cursor = s.cursor := by cases h <;> rfl
@[simp] theorem State.raiseEvent_dirty (s : State) (h : Half) : (s.raiseEvent h).dirty = s.dirty := by cases h <;> rfl
@[simp] theorem State.raiseEvent_led (s : State) (h : Half) : (s.raiseEvent h).led = s.led := by cases h <;> rfl
@[simp] theorem State.raiseEvent_buf (s : State) (h : Half) : (s.raiseEvent h).buf = s.buf := by cases h <;> rfl
@[simp] theorem State.raiseEvent_started (s : State) (h : Half) : (s.raiseEvent h).started = s.started := by cases h <;> rfl
@[simp] theorem State.raiseEvent_curHalf (s : State) (h : Half) : (s.raiseEvent h).curHalf = s.curHalf := by cases h <;> rfl
@[simp] theorem State.raiseEvent_slot (s : State) (h : Half) : (s.raiseEvent h).slot = s.slot := by cases h <;> rfl
@[simp] theorem State.raiseEvent_pending0 (s : State) (h : Half) : (s.raiseEvent h).pending0 = if h = .first then true else s.pending0 := by cases h <;> rfl
@[simp] theorem State.raiseEvent_pending1 (s : State) (h : Half) : (s.raiseEvent h).pending1 = if h = .second then true else s.pending1 := by cases h <;> rfl
@[simp] theorem State.raiseEvent_lastEvt (s : State) (h : Half) : (s.raiseEvent h).lastEvt = h := by cases h <;> rfl
@[simp] theorem State.raiseEvent_fgOp (s : State) (h : Half) : (s.raiseEvent h).fgOp = s.fgOp := by cases h <;> rfl
@[simp] theorem State.raiseEvent_status (s : State) (h : Half) : (s.raiseEvent h).status = s.status := by cases h <;> rfl
@[simp] theorem State.raiseEvent_trace (s : State) (h : Half) : (s.raiseEvent h).trace = s.trace := by cases h <;> rfl
@[simp] theorem State.raiseEvent_wlog (s : State) (h : Half) : (s.raiseEvent h).wlog = s.wlog := by cases h <;> rfl
@[simp] theorem State.raiseEvent_encSteps (s : State) (h : Half) : (s.raiseEvent h).encSteps = s.encSteps := by cases h <;> rfl
@[simp] theorem State.raiseEvent_faults (s : State) (h : Half) : (s.raiseEvent h).faults = s.faults := by cases h <;> rfl
@[simp] theorem State.raiseEvent_refused (s : State) (h : Half) : (s.raiseEvent h).refused = s.refused := by cases h <;> rfl
@[simp] theorem State.raiseEvent_cfg (s : State) (h : Half) : (s.raiseEvent h).cfg = s.cfg := by cases h <;> rfl
@[simp] theorem State.raiseEvent_words (s : State) (h : Half) : (s.raiseEvent h).words = s.words := by cases h <;> rfl
@[simp] theorem State.raiseEvent_moves (s : State) (h : Half) : (s.raiseEvent h).moves = s.moves := by cases h <;> rfl
@[simp] theorem State.raiseEvent_allocs (s : State) (h : Half) : (s.raiseEvent h).allocs = s.allocs := by cases h <;> rfl
@[simp] theorem State.raiseEvent_drawn (s : State) (h : Half) : (s.raiseEvent h).drawn = s.drawn := by cases h <;> rfl
@[simp] theorem State.raiseEvent_rounds (s : State) (h : Half) : (s.raiseEvent h).rounds = s.rounds := by cases h <;> rfl

/-! ### `State.enterEncoder` -/

@[simp] theorem State.enterEncoder_life (s : State) : (s.enterEncoder).life = s.life := rfl
@[simp] theorem State.enterEncoder_ledCount (s : State) : (s.enterEncoder).ledCount = s.ledCount := rfl
@[simp] theorem State.enterEncoder_encState (s : State) : (s.enterEncoder).encState = s.encState := rfl
@[simp] theorem State.enterEncoder_resetCount (s : State) : (s.enterEncoder).resetCount = s.resetCount := rfl
@[simp] theorem State.enterEncoder_zhw (s : State) : (s.enterEncoder).zhw = s.zhw := rfl
@[simp] theorem State.enterEncoder_cursor (s : State) : (s.enterEncoder).cursor = s.cursor := rfl
@[simp] theorem State.enterEncoder_dirty (s : State) : (s.enterEncoder).dirty = s.dirty := rfl
@[simp] theorem State.enterEncoder_led (s : State) : (s.enterEncoder).led = s.led := rfl
@[simp] theorem State.enterEncoder_buf (s : State) : (s.enterEncoder).buf = s.buf := rfl
@[simp] theorem State.enterEncoder_started (s : State) : (s.enterEncoder).started = s.started := rfl
@[simp] theorem State.enterEncoder_curHalf (s : State) : (s.enterEncoder).curHalf = s.curHalf := rfl
@[simp] theorem State.enterEncoder_slot (s : State) : (s.enterEncoder).slot = s.slot := rfl
@[simp] theorem State.enterEncoder_pending0 (s : State) : (s.enterEncoder).pending0 = s.pending0 := rfl
@[simp] theorem State.enterEncoder_pending1 (s : State) : (s.enterEncoder).pending1 = s.pending1 := rfl
@[simp] theorem State.enterEncoder_lastEvt (s : State) : (s.enterEncoder).lastEvt = s.lastEvt := rfl
@[simp] theorem State.enterEncoder_fgOp (s : State) : (s.enterEncoder).fgOp = s.fgOp := rfl
@[simp] theorem State.enterEncoder_status (s : State) : (s.enterEncoder).status = s.status := rfl
@[simp] theorem State.enterEncoder_trace (s : State) : (s.enterEncoder).trace = s.trace := rfl
@[simp] theorem State.enterEncoder_wlog (s : State) : (s.enterEncoder).wlog = s.wlog := rfl
@[simp] theorem State.enterEncoder_encSteps (s : State) : (s.enterEncoder).encSteps = s.encSteps + 1 := rfl
@[simp] theorem State.enterEncoder_faults (s : State) : (s.enterEncoder).faults = s.faults := rfl
@[simp] theorem State.enterEncoder_refused (s : State) : (s.enterEncoder).refused = s.refused := rfl
@[simp] theorem State.enterEncoder_cfg (s : State) : (s.enterEncoder).cfg = s.cfg := rfl
@[simp] theorem State.enterEncoder_words (s : State) : (s.enterEncoder).words = s.words := rfl
@[simp] theorem State.enterEncoder_moves (s : State) : (s.enterEncoder).moves = s.moves := rfl
@[simp] theorem State.enterEncoder_allocs (s : State) : (s.enterEncoder).allocs = s.allocs := rfl
@[simp] theorem State.enterEncoder_drawn (s : State) : (s.enterEncoder).drawn = s.drawn := rfl
@[simp] theorem State.enterEncoder_rounds (s : State) : (s.enterEncoder).rounds = s.rounds := rfl

/-! ### `State.leaveEncoder` -/

@[simp] theorem State.leaveEncoder_life (s : State) (h : Half) : (s.leaveEncoder h).life = s.life := by cases h <;> rfl
@[simp] theorem State.leaveEncoder_ledCount (s : State) (h : Half) : (s.leaveEncoder h).ledCount = s.ledCount := by cases h <;> rfl
@[simp] theorem State.leaveEncoder_encState (s : State) (h : Half) : (s.leaveEncoder h).encState = s.encState := by cases h <;> rfl
@[simp] theorem State.leaveEncoder_resetCount (s : State) (h : Half) : (s.leaveEncoder h).resetCount = s.resetCount := by cases h <;> rfl
@[simp] theorem State.leaveEncoder_zhw (s : State) (h : Half) : (s.leaveEncoder h).zhw = s.zhw := by cases h <;> rfl
@[simp] theorem State.leaveEncoder_cursor (s : State) (h : Half) : (s.leaveEncoder h).cursor = s.cursor := by cases h <;> rfl
@[simp] theorem State.leaveEncoder_dirty (s : State) (h : Half) : (s.leaveEncoder h).dirty = s.dirty := by cases h <;> rfl
@[simp] theorem State.leaveEncoder_led (s : State) (h : Half) : (s.leaveEncoder h).led = s.led := by cases h <;> rfl
@[simp] theorem State.leaveEncoder_buf (s : State) (h : Half) : (s.leaveEncoder h).buf = s.buf := by cases h <;> rfl
@[simp] theorem State.leaveEncoder_started (s : State) (h : Half) : (s.leaveEncoder h).started = s.started := by cases h <;> rfl
@[simp] theorem State.leaveEncoder_curHalf (s : State) (h : Half) : (s.leaveEncoder h).curHalf = s.curHalf := by cases h <;> rfl
@[simp] theorem State.leaveEncoder_slot (s : State) (h : Half) : (s.leaveEncoder h).slot = s.slot := by cases h <;> rfl
@[simp] theorem State.leaveEncoder_pending0 (s : State) (h : Half) : (s.leaveEncoder h).pending0 = if h = .first then false else s.pending0 := by cases h <;> rfl
@[simp] theorem State.leaveEncoder_pending1 (s : State) (h : Half) : (s.leaveEncoder h).pending1 = if h = .second then false else s.pending1 := by cases h <;> rfl
@[simp] theorem State.leaveEncoder_lastEvt (s : State) (h : Half) : (s.leaveEncoder h).lastEvt = s.lastEvt := by cases h <;> rfl
@[simp] theorem State.leaveEncoder_fgOp (s : State) (h : Half) : (s.leaveEncoder h).fgOp = s.fgOp := by cases h <;> rfl
@[simp] theorem State.leaveEncoder_status (s : State) (h : Half) : (s.leaveEncoder h).status = s.status := by cases h <;> rfl
@[simp] theorem State.leaveEncoder_trace (s : State) (h : Half) : (s.leaveEncoder h).trace = s.trace := by cases h <;> rfl
@[simp] theorem State.leaveEncoder_wlog (s : State) (h : Half) : (s.leaveEncoder h).wlog = s.wlog := by cases h <;> rfl
@[simp] theorem State.leaveEncoder_encSteps (s : State) (h : Half) : (s.leaveEncoder h).encSteps = s.encSteps := by cases h <;> rfl
@[simp] theorem State.leaveEncoder_faults (s : State) (h : Half) : (s.leaveEncoder h).faults = s.faults := by cases h <;> rfl
@[simp] theorem State.leaveEncoder_refused (s : State) (h : Half) : (s.leaveEncoder h).refused = s.refused := by cases h <;> rfl
@[simp] theorem State.leaveEncoder_cfg (s : State) (h : Half) : (s.leaveEncoder h).cfg = s.cfg := by cases h <;> rfl
@[simp] theorem State.leaveEncoder_words (s : State) (h : Half) : (s.leaveEncoder h).words = s.words := by cases h <;> rfl
@[simp] theorem State.leaveEncoder_moves (s : State) (h : Half) : (s.leaveEncoder h).moves = s.moves := by cases h <;> rfl
@[simp] theorem State.leaveEncoder_allocs (s : State) (h : Half) : (s.leaveEncoder h).allocs = s.allocs := by cases h <;> rfl
@[simp] theorem State.leaveEncoder_drawn (s : State) (h : Half) : (s.leaveEncoder h).drawn = s.drawn := by cases h <;> rfl
@[simp] theorem State.leaveEncoder_rounds (s : State) (h : Half) : (s.leaveEncoder h).rounds = s.rounds := by cases h <;> rfl

/-! ### `State.emit` -/

@[simp] theorem State.emit_life (s : State) (n : Half) : (s.emit n).life = s.life := rfl
@[simp] theorem State.emit_ledCount (s : State) (n : Half) : (s.emit n).ledCount = s.ledCount := rfl
@[simp] theorem State.emit_encState (s : State) (n : Half) : (s.emit n).encState = s.encState := rfl
@[simp] theorem State.emit_resetCount (s : State) (n : Half) : (s.emit n).resetCount = s.resetCount := rfl
@[simp] theorem State.emit_zhw (s : State) (n : Half) : (s.emit n).zhw = s.zhw := rfl
@[simp] theorem State.emit_cursor (s : State) (n : Half) : (s.emit n).cursor = s.cursor := rfl
@[simp] theorem State.emit_dirty (s : State) (n : Half) : (s.emit n).dirty = s.dirty := rfl
@[simp] theorem State.emit_led (s : State) (n : Half) : (s.emit n).led = s.led := rfl
@[simp] theorem State.emit_buf (s : State) (n : Half) : (s.emit n).buf = s.buf := rfl
@[simp] theorem State.emit_started (s : State) (n : Half) : (s.emit n).started = s.started := rfl
@[simp] theorem State.emit_curHalf (s : State) (n : Half) : (s.emit n).curHalf = s.curHalf := rfl
@[simp] theorem State.emit_slot (s : State) (n : Half) : (s.emit n).slot = s.slot := rfl
@[simp] theorem State.emit_pending0 (s : State) (n : Half) : (s.emit n).pending0 = s.pending0 := rfl
@[simp] theorem State.emit_pending1 (s : State) (n : Half) : (s.emit n).pending1 = s.pending1 := rfl
@[simp] theorem State.emit_lastEvt (s : State) (n : Half) : (s.emit n).lastEvt = s.lastEvt := rfl
@[simp] theorem State.emit_fgOp (s : State) (n : Half) : (s.emit n).fgOp = s.fgOp := rfl
@[simp] theorem State.emit_status (s : State) (n : Half) : (s.emit n).status = s.status := rfl
@[simp] theorem State.emit_trace (s : State) (n : Half) : (s.emit n).trace = s.trace ++ [s.half n] := rfl
@[simp] theorem State.emit_wlog (s : State) (n : Half) : (s.emit n).wlog = s.wlog := rfl
@[simp] theorem State.emit_encSteps (s : State) (n : Half) : (s.emit n).encSteps = s.encSteps := rfl
@[simp] theorem State.emit_faults (s : State) (n : Half) : (s.emit n).faults = s.faults := rfl
@[simp] theorem State.emit_refused (s : State) (n : Half) : (s.emit n).refused = s.refused := rfl
@[simp] theorem State.emit_cfg (s : State) (n : Half) : (s.emit n).cfg = s.cfg := rfl
@[simp] theorem State.emit_words (s : State) (n : Half) : (s.emit n).words = s.words := rfl
@[simp] theorem State.emit_moves (s : State) (n : Half) : (s.emit n).moves = s.moves := rfl
@[simp] theorem State.emit_allocs (s : State) (n : Half) : (s.emit n).allocs = s.allocs := rfl
@[simp] theorem State.emit_drawn (s : State) (n : Half) : (s.emit n).drawn = s.drawn := rfl
@[simp] theorem State.emit_rounds (s : State) (n : Half) : (s.emit n).rounds = s.rounds := rfl

/-! ### `State.takeMove` -/

@[simp] theorem State.takeMove_life (s : State) : (s.takeMove).life = s.life := by unfold State.takeMove; split <;> rfl
@[simp] theorem State.takeMove_ledCount (s : State) : (s.takeMove).ledCount = s.ledCount := by unfold State.takeMove; split <;> rfl
@[simp] theorem State.takeMove_encState (s : State) : (s.takeMove).encState = s.encState := by unfold State.takeMove; split <;> rfl
@[simp] theorem State.takeMove_resetCount (s : State) : (s.takeMove).resetCount = s.resetCount := by unfold State.takeMove; split <;> rfl
@[simp] theorem State.takeMove_zhw (s : State) : (s.takeMove).zhw = s.zhw := by unfold State.takeMove; split <;> rfl
@[simp] theorem State.takeMove_cursor (s : State) : (s.takeMove).cursor = s.cursor := by unfold State.takeMove; split <;> rfl
@[simp] theorem State.takeMove_dirty (s : State) : (s.takeMove).dirty = s.dirty := by unfold State.takeMove; split <;> rfl
@[simp] theorem State.takeMove_led (s : State) : (s.takeMove).led = s.led := by unfold State.takeMove; split <;> rfl
@[simp] theorem State.takeMove_buf (s : State) : (s.takeMove).buf = s.buf := by unfold State.takeMove; split <;> rfl
@[simp] theorem State.takeMove_started (s : State) : (s.takeMove).started = s.started := by unfold State.takeMove; split <;> rfl
@[simp] theorem State.takeMove_curHalf (s : State) : (s.takeMove).curHalf = s.curHalf := by unfold State.takeMove; split <;> rfl
@[simp] theorem State.takeMove_slot (s : State) : (s.takeMove).slot = s.slot := by unfold State.takeMove; split <;> rfl
@[simp] theorem State.takeMove_pending0 (s : State) : (s.takeMove).pending0 = s.pending0 := by unfold State.takeMove; split <;> rfl
@[simp] theorem State.takeMove_pending1 (s : State) : (s.takeMove).pending1 = s.pending1 := by unfold State.takeMove; split <;> rfl
@[simp] theorem State.takeMove_lastEvt (s : State) : (s.takeMove).lastEvt = s.lastEvt := by unfold State.takeMove; split <;> rfl
@[simp] theorem State.takeMove_fgOp (s : State) : (s.takeMove).fgOp = s.fgOp := by unfold State.takeMove; split <;> rfl
@[simp] theorem State.takeMove_status (s : State) : (s.takeMove).status = s.status := by unfold State.takeMove; split <;> rfl
@[simp] theorem State.takeMove_trace (s : State) : (s.takeMove).trace = s.trace := by unfold State.takeMove; split <;> rfl
@[simp] theorem State.takeMove_wlog (s : State) : (s.takeMove).wlog = s.wlog := by unfold State.takeMove; split <;> rfl
@[simp] theorem State.takeMove_encSteps (s : State) : (s.takeMove).encSteps = s.encSteps := by unfold State.takeMove; split <;> rfl
@[simp] theorem State.takeMove_faults (s : State) : (s.takeMove).faults = s.faults := by unfold State.takeMove; split <;> rfl
@[simp] theorem State.takeMove_refused (s : State) : (s.takeMove).refused = s.refused := by unfold State.takeMove; split <;> rfl
@[simp] theorem State.takeMove_cfg (s : State) : (s.takeMove).cfg = s.cfg := by unfold State.takeMove; split <;> rfl
@[simp] theorem State.takeMove_words (s : State) : (s.takeMove).words = s.words := by unfold State.takeMove; split <;> rfl
@[simp] theorem State.takeMove_moves (s : State) : (s.takeMove).moves = if s.moves = [] then s.owedMoves.2 ++ Config.freeRound s.rounds else s.moves.tail := by unfold State.takeMove; split <;> simp_all
@[simp] theorem State.takeMove_allocs (s : State) : (s.takeMove).allocs = s.allocs := by unfold State.takeMove; split <;> rfl
@[simp] theorem State.takeMove_drawn (s : State) : (s.takeMove).drawn = s.drawn := by unfold State.takeMove; split <;> rfl
@[simp] theorem State.takeMove_rounds (s : State) : (s.takeMove).rounds = if s.moves = [] then s.rounds + 1 else s.rounds := by unfold State.takeMove; split <;> simp_all

/-! ### `State.takeAlloc` -/

@[simp] theorem State.takeAlloc_life (s : State) : (s.takeAlloc).life = s.life := by unfold State.takeAlloc; split <;> rfl
@[simp] theorem State.takeAlloc_ledCount (s : State) : (s.takeAlloc).ledCount = s.ledCount := by unfold State.takeAlloc; split <;> rfl
@[simp] theorem State.takeAlloc_encState (s : State) : (s.takeAlloc).encState = s.encState := by unfold State.takeAlloc; split <;> rfl
@[simp] theorem State.takeAlloc_resetCount (s : State) : (s.takeAlloc).resetCount = s.resetCount := by unfold State.takeAlloc; split <;> rfl
@[simp] theorem State.takeAlloc_zhw (s : State) : (s.takeAlloc).zhw = s.zhw := by unfold State.takeAlloc; split <;> rfl
@[simp] theorem State.takeAlloc_cursor (s : State) : (s.takeAlloc).cursor = s.cursor := by unfold State.takeAlloc; split <;> rfl
@[simp] theorem State.takeAlloc_dirty (s : State) : (s.takeAlloc).dirty = s.dirty := by unfold State.takeAlloc; split <;> rfl
@[simp] theorem State.takeAlloc_led (s : State) : (s.takeAlloc).led = s.led := by unfold State.takeAlloc; split <;> rfl
@[simp] theorem State.takeAlloc_buf (s : State) : (s.takeAlloc).buf = s.buf := by unfold State.takeAlloc; split <;> rfl
@[simp] theorem State.takeAlloc_started (s : State) : (s.takeAlloc).started = s.started := by unfold State.takeAlloc; split <;> rfl
@[simp] theorem State.takeAlloc_curHalf (s : State) : (s.takeAlloc).curHalf = s.curHalf := by unfold State.takeAlloc; split <;> rfl
@[simp] theorem State.takeAlloc_slot (s : State) : (s.takeAlloc).slot = s.slot := by unfold State.takeAlloc; split <;> rfl
@[simp] theorem State.takeAlloc_pending0 (s : State) : (s.takeAlloc).pending0 = s.pending0 := by unfold State.takeAlloc; split <;> rfl
@[simp] theorem State.takeAlloc_pending1 (s : State) : (s.takeAlloc).pending1 = s.pending1 := by unfold State.takeAlloc; split <;> rfl
@[simp] theorem State.takeAlloc_lastEvt (s : State) : (s.takeAlloc).lastEvt = s.lastEvt := by unfold State.takeAlloc; split <;> rfl
@[simp] theorem State.takeAlloc_fgOp (s : State) : (s.takeAlloc).fgOp = s.fgOp := by unfold State.takeAlloc; split <;> rfl
@[simp] theorem State.takeAlloc_status (s : State) : (s.takeAlloc).status = s.status := by unfold State.takeAlloc; split <;> rfl
@[simp] theorem State.takeAlloc_trace (s : State) : (s.takeAlloc).trace = s.trace := by unfold State.takeAlloc; split <;> rfl
@[simp] theorem State.takeAlloc_wlog (s : State) : (s.takeAlloc).wlog = s.wlog := by unfold State.takeAlloc; split <;> rfl
@[simp] theorem State.takeAlloc_encSteps (s : State) : (s.takeAlloc).encSteps = s.encSteps := by unfold State.takeAlloc; split <;> rfl
@[simp] theorem State.takeAlloc_faults (s : State) : (s.takeAlloc).faults = s.faults := by unfold State.takeAlloc; split <;> rfl
@[simp] theorem State.takeAlloc_refused (s : State) : (s.takeAlloc).refused = s.refused := by unfold State.takeAlloc; split <;> rfl
@[simp] theorem State.takeAlloc_cfg (s : State) : (s.takeAlloc).cfg = s.cfg := by unfold State.takeAlloc; split <;> rfl
@[simp] theorem State.takeAlloc_words (s : State) : (s.takeAlloc).words = s.words := by unfold State.takeAlloc; split <;> rfl
@[simp] theorem State.takeAlloc_moves (s : State) : (s.takeAlloc).moves = s.moves := by unfold State.takeAlloc; split <;> rfl
@[simp] theorem State.takeAlloc_allocs (s : State) : (s.takeAlloc).allocs = s.allocs.tail := by unfold State.takeAlloc; split <;> simp_all
@[simp] theorem State.takeAlloc_drawn (s : State) : (s.takeAlloc).drawn = if s.allocs = [] then s.drawn + 1 else s.drawn := by unfold State.takeAlloc; split <;> simp_all
@[simp] theorem State.takeAlloc_rounds (s : State) : (s.takeAlloc).rounds = s.rounds := by unfold State.takeAlloc; split <;> rfl

/-! ### `State.setDirty` -/

@[simp] theorem State.setDirty_life (s : State) (b : Bool) : (s.setDirty b).life = s.life := rfl
@[simp] theorem State.setDirty_ledCount (s : State) (b : Bool) : (s.setDirty b).ledCount = s.ledCount := rfl
@[simp] theorem State.setDirty_encState (s : State) (b : Bool) : (s.setDirty b).encState = s.encState := rfl
@[simp] theorem State.setDirty_resetCount (s : State) (b : Bool) : (s.setDirty b).resetCount = s.resetCount := rfl
@[simp] theorem State.setDirty_zhw (s : State) (b : Bool) : (s.setDirty b).zhw = s.zhw := rfl
@[simp] theorem State.setDirty_cursor (s : State) (b : Bool) : (s.setDirty b).cursor = s.cursor := rfl
@[simp] theorem State.setDirty_dirty (s : State) (b : Bool) : (s.setDirty b).dirty = (s.dirty || b) := rfl
@[simp] theorem State.setDirty_led (s : State) (b : Bool) : (s.setDirty b).led = s.led := rfl
@[simp] theorem State.setDirty_buf (s : State) (b : Bool) : (s.setDirty b).buf = s.buf := rfl
@[simp] theorem State.setDirty_started (s : State) (b : Bool) : (s.setDirty b).started = s.started := rfl
@[simp] theorem State.setDirty_curHalf (s : State) (b : Bool) : (s.setDirty b).curHalf = s.curHalf := rfl
@[simp] theorem State.setDirty_slot (s : State) (b : Bool) : (s.setDirty b).slot = s.slot := rfl
@[simp] theorem State.setDirty_pending0 (s : State) (b : Bool) : (s.setDirty b).pending0 = s.pending0 := rfl
@[simp] theorem State.setDirty_pending1 (s : State) (b : Bool) : (s.setDirty b).pending1 = s.pending1 := rfl
@[simp] theorem State.setDirty_lastEvt (s : State) (b : Bool) : (s.setDirty b).lastEvt = s.lastEvt := rfl
@[simp] theorem State.setDirty_fgOp (s : State) (b : Bool) : (s.setDirty b).fgOp = s.fgOp := rfl
@[simp] theorem State.setDirty_status (s : State) (b : Bool) : (s.setDirty b).status = s.status := rfl
@[simp] theorem State.setDirty_trace (s : State) (b : Bool) : (s.setDirty b).trace = s.trace := rfl
@[simp] theorem State.setDirty_wlog (s : State) (b : Bool) : (s.setDirty b).wlog = s.wlog := rfl
@[simp] theorem State.setDirty_encSteps (s : State) (b : Bool) : (s.setDirty b).encSteps = s.encSteps := rfl
@[simp] theorem State.setDirty_faults (s : State) (b : Bool) : (s.setDirty b).faults = s.faults := rfl
@[simp] theorem State.setDirty_refused (s : State) (b : Bool) : (s.setDirty b).refused = s.refused := rfl
@[simp] theorem State.setDirty_cfg (s : State) (b : Bool) : (s.setDirty b).cfg = s.cfg := rfl
@[simp] theorem State.setDirty_words (s : State) (b : Bool) : (s.setDirty b).words = s.words := rfl
@[simp] theorem State.setDirty_moves (s : State) (b : Bool) : (s.setDirty b).moves = s.moves := rfl
@[simp] theorem State.setDirty_allocs (s : State) (b : Bool) : (s.setDirty b).allocs = s.allocs := rfl
@[simp] theorem State.setDirty_drawn (s : State) (b : Bool) : (s.setDirty b).drawn = s.drawn := rfl
@[simp] theorem State.setDirty_rounds (s : State) (b : Bool) : (s.setDirty b).rounds = s.rounds := rfl

/-! ### `State.sampleDirty` -/

@[simp] theorem State.sampleDirty_life (s : State) (e : EncState) : (s.sampleDirty e).life = s.life := by unfold State.sampleDirty; split <;> rfl
@[simp] theorem State.sampleDirty_ledCount (s : State) (e : EncState) : (s.sampleDirty e).ledCount = s.ledCount := by unfold State.sampleDirty; split <;> rfl
@[simp] theorem State.sampleDirty_encState (s : State) (e : EncState) : (s.sampleDirty e).encState = if s.dirty then .data else e := by unfold State.sampleDirty; split <;> simp_all
@[simp] theorem State.sampleDirty_resetCount (s : State) (e : EncState) : (s.sampleDirty e).resetCount = s.resetCount := by unfold State.sampleDirty; split <;> rfl
@[simp] theorem State.sampleDirty_zhw (s : State) (e : EncState) : (s.sampleDirty e).zhw = s.zhw := by unfold State.sampleDirty; split <;> rfl
@[simp] theorem State.sampleDirty_cursor (s : State) (e : EncState) : (s.sampleDirty e).cursor = s.cursor := by unfold State.sampleDirty; split <;> rfl
@[simp] theorem State.sampleDirty_dirty (s : State) (e : EncState) : (s.sampleDirty e).dirty = false := by unfold State.sampleDirty; split <;> simp_all
@[simp] theorem State.sampleDirty_led (s : State) (e : EncState) : (s.sampleDirty e).led = s.led := by unfold State.sampleDirty; split <;> rfl
@[simp] theorem State.sampleDirty_buf (s : State) (e : EncState) : (s.sampleDirty e).buf = s.buf := by unfold State.sampleDirty; split <;> rfl
@[simp] theorem State.sampleDirty_started (s : State) (e : EncState) : (s.sampleDirty e).started = s.started := by unfold State.sampleDirty; split <;> rfl
@[simp] theorem State.sampleDirty_curHalf (s : State) (e : EncState) : (s.sampleDirty e).curHalf = s.curHalf := by unfold State.sampleDirty; split <;> rfl
@[simp] theorem State.sampleDirty_slot (s : State) (e : EncState) : (s.sampleDirty e).slot = s.slot := by unfold State.sampleDirty; split <;> rfl
@[simp] theorem State.sampleDirty_pending0 (s : State) (e : EncState) : (s.sampleDirty e).pending0 = s.pending0 := by unfold State.sampleDirty; split <;> rfl
@[simp] theorem State.sampleDirty_pending1 (s : State) (e : EncState) : (s.sampleDirty e).pending1 = s.pending1 := by unfold State.sampleDirty; split <;> rfl
@[simp] theorem State.sampleDirty_lastEvt (s : State) (e : EncState) : (s.sampleDirty e).lastEvt = s.lastEvt := by unfold State.sampleDirty; split <;> rfl
@[simp] theorem State.sampleDirty_fgOp (s : State) (e : EncState) : (s.sampleDirty e).fgOp = s.fgOp := by unfold State.sampleDirty; split <;> rfl
@[simp] theorem State.sampleDirty_status (s : State) (e : EncState) : (s.sampleDirty e).status = s.status := by unfold State.sampleDirty; split <;> rfl
@[simp] theorem State.sampleDirty_trace (s : State) (e : EncState) : (s.sampleDirty e).trace = s.trace := by unfold State.sampleDirty; split <;> rfl
@[simp] theorem State.sampleDirty_wlog (s : State) (e : EncState) : (s.sampleDirty e).wlog = s.wlog := by unfold State.sampleDirty; split <;> rfl
@[simp] theorem State.sampleDirty_encSteps (s : State) (e : EncState) : (s.sampleDirty e).encSteps = s.encSteps := by unfold State.sampleDirty; split <;> rfl
@[simp] theorem State.sampleDirty_faults (s : State) (e : EncState) : (s.sampleDirty e).faults = s.faults := by unfold State.sampleDirty; split <;> rfl
@[simp] theorem State.sampleDirty_refused (s : State) (e : EncState) : (s.sampleDirty e).refused = s.refused := by unfold State.sampleDirty; split <;> rfl
@[simp] theorem State.sampleDirty_cfg (s : State) (e : EncState) : (s.sampleDirty e).cfg = s.cfg := by unfold State.sampleDirty; split <;> rfl
@[simp] theorem State.sampleDirty_words (s : State) (e : EncState) : (s.sampleDirty e).words = s.words := by unfold State.sampleDirty; split <;> rfl
@[simp] theorem State.sampleDirty_moves (s : State) (e : EncState) : (s.sampleDirty e).moves = s.moves := by unfold State.sampleDirty; split <;> rfl
@[simp] theorem State.sampleDirty_allocs (s : State) (e : EncState) : (s.sampleDirty e).allocs = s.allocs := by unfold State.sampleDirty; split <;> rfl
@[simp] theorem State.sampleDirty_drawn (s : State) (e : EncState) : (s.sampleDirty e).drawn = s.drawn := by unfold State.sampleDirty; split <;> rfl
@[simp] theorem State.sampleDirty_rounds (s : State) (e : EncState) : (s.sampleDirty e).rounds = s.rounds := by unfold State.sampleDirty; split <;> rfl

end Sys2Proof.Machine
end

