-- ==== Sys2Proof/Laws/Buffer.lean ====
section
/-! SUPPORT. The laws of the Double Buffer and of the colour table: what a half, an entry and a table entry hold. -/

namespace Sys2Proof

@[simp] theorem Half.other_other (h : Half) : h.other.other = h := by cases h <;> rfl

@[simp] theorem Half.other_ne (h : Half) : h.other ≠ h := by cases h <;> decide

@[simp] theorem Half.ne_other (h : Half) : h ≠ h.other := by cases h <;> decide

/-- A half is `h` or the other one. -/
theorem Half.eq_or_eq_other (h k : Half) : k = h ∨ k = h.other := by cases h <;> cases k <;> decide

/-- Halves alternate with the slot number (R210). -/
theorem Half.ofSlot_succ (k : Nat) : Half.ofSlot (k + 1) = (Half.ofSlot k).other := by
  unfold Half.ofSlot
  rcases Nat.mod_two_eq_zero_or_one k with h | h <;> simp [Nat.add_mod, h, Half.other]

namespace Machine

/-- Entry `k` of half `h` is entry `24*h + k` of the buffer (R64). -/
theorem halfOf_getElem (b : Buffer) (h : Half) (k : Nat) (hk : k < 24) :
    (halfOf b h)[k] = b[24 * h.index + k]'(by cases h <;> simp only [Half.index] <;> omega) := by
  unfold halfOf
  cases h <;> simp [entryOf, Half.index]

/-- What an entry of the buffer holds after a half of it was replaced (R62). -/
theorem setHalf_getElem (b : Buffer) (h : Half) (d : HalfData) (j : Nat) (hj : j < 48) :
    (setHalf b h d)[j] = if entryHalf j = h then d[j % 24]'(Nat.mod_lt _ (by decide)) else b[j] := by
  unfold setHalf
  rw [Vector.getElem_ofFn]
  rfl

/-- Entry `k` of half `h` belongs to half `h`. -/
theorem entryHalf_index (h : Half) (k : Nat) (hk : k < 24) : entryHalf (24 * h.index + k) = h := by
  unfold entryHalf
  cases h <;> simp only [Half.index]
  · exact if_pos (by omega)
  · exact if_neg (by omega)

/-- The replaced half holds the new values. -/
@[simp] theorem halfOf_setHalf_same (b : Buffer) (h : Half) (d : HalfData) : halfOf (setHalf b h d) h = d := by
  refine Vector.ext fun k hk => ?_
  rw [halfOf_getElem _ _ _ hk, setHalf_getElem, if_pos (entryHalf_index h k hk)]
  congr 1
  rw [Nat.mul_add_mod, Nat.mod_eq_of_lt hk]

/-- The other half is as it was. -/
theorem halfOf_setHalf_of_ne (b : Buffer) (h k : Half) (d : HalfData) (hne : k ≠ h) :
    halfOf (setHalf b h d) k = halfOf b k := by
  refine Vector.ext fun j hj => ?_
  rw [halfOf_getElem _ _ _ hj, halfOf_getElem _ _ _ hj, setHalf_getElem,
    if_neg (by rw [entryHalf_index k j hj]; exact hne)]

@[simp] theorem halfOf_setHalf_other (b : Buffer) (h : Half) (d : HalfData) :
    halfOf (setHalf b h d) h.other = halfOf b h.other := halfOf_setHalf_of_ne b h h.other d (Half.other_ne h)

/-- Two buffers with the same halves are the same buffer. -/
theorem Buffer.ext_halves {b b' : Buffer} (h0 : halfOf b .first = halfOf b' .first)
    (h1 : halfOf b .second = halfOf b' .second) : b = b' := by
  refine Vector.ext fun j hj => ?_
  by_cases hlt : j < 24
  · have h := congrArg (fun d : HalfData => d[j]) h0
    simpa [halfOf_getElem, hlt, Half.index] using h
  · have h := congrArg (fun d : HalfData => d[j - 24]'(by omega)) h1
    have e : 24 + (j - 24) = j := by omega
    simpa [halfOf_getElem, Half.index, e] using h

/-- The half of a state whose half was written. -/
theorem State.half_writeHalf (s : State) (h k : Half) (d : HalfData) :
    (s.writeHalf h d).half k = if k = h then d else s.half k := by
  unfold State.half
  rw [State.writeHalf_buf]
  split
  · subst k; exact halfOf_setHalf_same _ _ _
  · exact halfOf_setHalf_of_ne _ _ _ _ ‹_›

/-- A half depends on the buffer alone. -/
theorem State.half_congr {s t : State} (h : s.buf = t.buf) (k : Half) : s.half k = t.half k := by
  unfold State.half; rw [h]

/-- `CT(v)[k]` is the pulse of bit `7 - k` (R170). -/
theorem ct_getElem (p : Params) (v : Byte) (k : Nat) (hk : k < 8) : (ct p v)[k] = pulse p (v.getLsbD (7 - k)) := by
  unfold ct; simp

/-- Every value of the table is the short or the long pulse (R172). -/
theorem pulse_cases (p : Params) (b : Bool) : pulse p b = p.tShort ∨ pulse p b = p.tLong := by
  cases b <;> simp [pulse]

/-- Entry `8*c + k` of an LED's 24 values is `CT(channel c)[k]` (R64, R135). -/
theorem rgbHalf_getElem (p : Params) (r g b : Byte) (c : Channel) (k : Nat) (hk : k < 8) :
    (rgbHalf p r g b)[8 * c.index + k]'(by cases c <;> simp only [Channel.index] <;> omega) =
      (ct p (match c with | .r => r | .g => g | .b => b))[k] := by
  unfold rgbHalf
  cases c <;> simp only [Channel.index]
  · rw [Vector.getElem_append_left (by omega), Vector.getElem_append_left (by omega)]; simp
  · rw [Vector.getElem_append_left (by omega), Vector.getElem_append_right (by omega) (by omega)]; congr 1; omega
  · rw [Vector.getElem_append_right (by omega) (by omega)]; congr 1; omega

@[simp] theorem zeroHalf_getElem (k : Nat) (hk : k < 24) : zeroHalf[k] = 0 := by simp [zeroHalf]

/-- `PENDING` after it is set. -/
@[simp] theorem State.pending_setPending (s : State) (h k : Half) (b : Bool) :
    (s.setPending h b).pending k = if k = h then b else s.pending k := by cases h <;> cases k <;> rfl

@[simp] theorem State.pending_leaveEncoder (s : State) (h k : Half) :
    (s.leaveEncoder h).pending k = if k = h then false else s.pending k := by cases h <;> cases k <;> rfl

@[simp] theorem State.pending_raiseEvent (s : State) (h k : Half) :
    (s.raiseEvent h).pending k = if k = h then true else s.pending k := by cases h <;> cases k <;> rfl

/-- `PENDING` depends on the two bits alone. -/
theorem State.pending_congr {s t : State} (h0 : s.pending0 = t.pending0) (h1 : s.pending1 = t.pending1) (k : Half) :
    s.pending k = t.pending k := by cases k <;> assumption

/-- The serviced half has its event pending (R130). -/
theorem State.servicedHalf_pending {s : State} {h : Half} (hs : s.servicedHalf = some h) : s.pending h = true := by
  unfold State.servicedHalf at hs
  split at hs <;> cases h <;> simp_all [State.pending]

end Machine
end Sys2Proof
end

