-- ==== Sys2Proof/Laws/Memory.lean ====
section
/-! SUPPORT. The laws of the LED space: a read after a write, and the canonical form that every operation keeps. -/

namespace Sys2Proof.Machine

/-- Two cells have one address only if they are one cell. -/
theorem ledAddr_inj {i j : Nat} {c d : Channel} : ledAddr i c = ledAddr j d ↔ i = j ∧ c = d := by
  cases c <;> cases d <;> simp [ledAddr, Channel.index] <;> omega

/-- The cells of an LED below `n` lie below `3 * n`. -/
theorem ledAddr_lt {i n : Nat} {c : Channel} : ledAddr i c < 3 * n ↔ i < n := by
  cases c <;> simp only [ledAddr, Channel.index] <;> omega

/-- An address below the bound of a canonical memory is not listed. -/
theorem Memory.read_below {m : Memory} {lo a : Nat} (h : m.wfFrom lo = true) (ha : a < lo) :
    m.read a = Memory.default := by
  induction m generalizing lo with
  | nil => rfl
  | cons cell m ih =>
    obtain ⟨b, x⟩ := cell
    simp only [Memory.wfFrom, Bool.and_eq_true, decide_eq_true_eq] at h
    simp only [Memory.read]
    rw [if_neg (by omega)]
    exact ih h.2 (by omega)

/-- A canonical memory stays canonical when its bound is lowered. -/
theorem Memory.wfFrom_mono {m : Memory} {lo lo' : Nat} (h : m.wfFrom lo = true) (hl : lo' ≤ lo) :
    m.wfFrom lo' = true := by
  cases m with
  | nil => rfl
  | cons cell m =>
    simp only [Memory.wfFrom, Bool.and_eq_true, decide_eq_true_eq] at h ⊢
    exact ⟨⟨by omega, h.1.2⟩, h.2⟩

theorem Memory.wfFrom_put {m : Memory} {lo a : Nat} {v : Byte} (ha : lo ≤ a) (h : m.wfFrom (a + 1) = true) :
    (Memory.put a v m).wfFrom lo = true := by
  unfold Memory.put
  split
  · exact Memory.wfFrom_mono h (by omega)
  · simp [Memory.wfFrom, *]

theorem Memory.wfFrom_write {m : Memory} {lo a : Nat} {v : Byte} (ha : lo ≤ a) (h : m.wfFrom lo = true) :
    (m.write a v).wfFrom lo = true := by
  induction m generalizing lo with
  | nil => exact Memory.wfFrom_put ha rfl
  | cons cell m ih =>
    obtain ⟨b, x⟩ := cell
    have h' := h
    simp only [Memory.wfFrom, Bool.and_eq_true, decide_eq_true_eq] at h'
    simp only [Memory.write]
    split
    · refine Memory.wfFrom_put ha ?_
      simp only [Memory.wfFrom, Bool.and_eq_true, decide_eq_true_eq]
      exact ⟨⟨by omega, h'.1.2⟩, h'.2⟩
    · split
      · subst a; exact Memory.wfFrom_put ha h'.2
      · simp only [Memory.wfFrom, Bool.and_eq_true, decide_eq_true_eq]
        exact ⟨h'.1, ih (by omega) h'.2⟩

/-- A write keeps the canonical form. -/
theorem Memory.wf_write {m : Memory} (a : Nat) (v : Byte) (h : m.wf = true) : (m.write a v).wf = true :=
  Memory.wfFrom_write (Nat.zero_le a) h

theorem Memory.read_put {m : Memory} {a a' : Nat} {v : Byte} (h : m.wfFrom (a + 1) = true) :
    (Memory.put a v m).read a' = if a' = a then v else m.read a' := by
  unfold Memory.put
  by_cases hv : v = Memory.default
  · rw [if_pos hv]
    split
    · subst a'; rw [Memory.read_below h (by omega), hv]
    · rfl
  · rw [if_neg hv]; rfl

theorem Memory.read_write_from {m : Memory} {lo a a' : Nat} {v : Byte} (h : m.wfFrom lo = true) (ha : lo ≤ a) :
    (m.write a v).read a' = if a' = a then v else m.read a' := by
  induction m generalizing lo with
  | nil => exact Memory.read_put rfl
  | cons cell m ih =>
    obtain ⟨b, x⟩ := cell
    have h' := h
    simp only [Memory.wfFrom, Bool.and_eq_true, decide_eq_true_eq] at h'
    simp only [Memory.write]
    split
    · refine Memory.read_put ?_
      simp only [Memory.wfFrom, Bool.and_eq_true, decide_eq_true_eq]
      exact ⟨⟨by omega, h'.1.2⟩, h'.2⟩
    · split
      · subst a
        rw [Memory.read_put h'.2]
        simp only [Memory.read]
        split <;> rfl
      · simp only [Memory.read, ih h'.2 (by omega)]
        by_cases h1 : a' = b
        · subst a'; simp only [if_true]; rw [if_neg (by omega)]
        · simp only [if_neg h1]

/-- Read after write: the written address holds the value, every other reads as before. -/
theorem Memory.read_write {m : Memory} (a a' : Nat) (v : Byte) (h : m.wf = true) :
    (m.write a v).read a' = if a' = a then v else m.read a' :=
  Memory.read_write_from h (Nat.zero_le a)

/-- A write of a cell of an LED below `n` lists nothing outside the store. -/
theorem Memory.within_write {m : Memory} {n a : Nat} (v : Byte) (ha : a < 3 * n) (h : m.within n = true) :
    (m.write a v).within n = true := by
  induction m with
  | nil => simp only [Memory.write, Memory.put]; split <;> simp [Memory.within, ha]
  | cons cell m ih =>
    obtain ⟨b, x⟩ := cell
    simp only [Memory.within, List.all_cons, Bool.and_eq_true, decide_eq_true_eq] at h ih
    simp only [Memory.write, Memory.put]
    split
    · split <;> simp [Memory.within, ha, h]
    · split
      · split <;> simp [Memory.within, ha, h]
      · simp only [Memory.within, List.all_cons, Bool.and_eq_true, decide_eq_true_eq]
        exact ⟨h.1, ih h.2⟩

/-- A canonical memory that reads 0 everywhere lists nothing. -/
theorem Memory.eq_nil_of_read {m : Memory} {lo : Nat} (h : m.wfFrom lo = true)
    (hr : ∀ a, m.read a = Memory.default) : m = [] := by
  cases m with
  | nil => rfl
  | cons cell m =>
    obtain ⟨b, x⟩ := cell
    simp only [Memory.wfFrom, Bool.and_eq_true, decide_eq_true_eq, bne_iff_ne] at h
    exact absurd (by simpa [Memory.read] using hr b) h.1.2

/-- Outside the store a memory reads 0. -/
theorem Memory.read_outside {m : Memory} {n a : Nat} (h : m.within n = true) (ha : 3 * n ≤ a) :
    m.read a = Memory.default := by
  induction m with
  | nil => rfl
  | cons cell m ih =>
    obtain ⟨b, x⟩ := cell
    simp only [Memory.within, List.all_cons, Bool.and_eq_true, decide_eq_true_eq] at h ih
    simp only [Memory.read]
    rw [if_neg (by omega)]
    exact ih h.2

/-- `MemRead(LED, i, c)` after `MemWrite(LED, j, d, v)`. -/
theorem State.readLed_writeLed {s : State} (h : s.led.wf = true) (i j : Nat) (c d : Channel) (v : Byte) :
    (s.writeLed j d v).readLed i c = if i = j ∧ c = d then v else s.readLed i c := by
  simp only [State.readLed, State.writeLed_led, Memory.read_write _ _ _ h, ledAddr_inj]

end Sys2Proof.Machine
end

