-- ==== Sys2Proof/Laws/Rows.lean ====
section
/-! SUPPORT. The frame of every row and shared operation, one lemma for each field it leaves as it was, and what the
stream's and the commands' operations write. -/

namespace Sys2Proof.Machine

/-! ### `resetRow` leaves alone -/

@[simp] theorem resetRow_life (h : Half) (s : State) : (resetRow h s).life = s.life := by
  unfold resetRow; split
  · rfl
  · split
    · rfl
    · simp [endResetRow]
@[simp] theorem resetRow_ledCount (h : Half) (s : State) : (resetRow h s).ledCount = s.ledCount := by
  unfold resetRow; split
  · rfl
  · split
    · rfl
    · simp [endResetRow]
@[simp] theorem resetRow_led (h : Half) (s : State) : (resetRow h s).led = s.led := by
  unfold resetRow; split
  · rfl
  · split
    · rfl
    · simp [endResetRow]
@[simp] theorem resetRow_started (h : Half) (s : State) : (resetRow h s).started = s.started := by
  unfold resetRow; split
  · rfl
  · split
    · rfl
    · simp [endResetRow]
@[simp] theorem resetRow_curHalf (h : Half) (s : State) : (resetRow h s).curHalf = s.curHalf := by
  unfold resetRow; split
  · rfl
  · split
    · rfl
    · simp [endResetRow]
@[simp] theorem resetRow_slot (h : Half) (s : State) : (resetRow h s).slot = s.slot := by
  unfold resetRow; split
  · rfl
  · split
    · rfl
    · simp [endResetRow]
@[simp] theorem resetRow_pending0 (h : Half) (s : State) : (resetRow h s).pending0 = s.pending0 := by
  unfold resetRow; split
  · rfl
  · split
    · rfl
    · simp [endResetRow]
@[simp] theorem resetRow_pending1 (h : Half) (s : State) : (resetRow h s).pending1 = s.pending1 := by
  unfold resetRow; split
  · rfl
  · split
    · rfl
    · simp [endResetRow]
@[simp] theorem resetRow_lastEvt (h : Half) (s : State) : (resetRow h s).lastEvt = s.lastEvt := by
  unfold resetRow; split
  · rfl
  · split
    · rfl
    · simp [endResetRow]
@[simp] theorem resetRow_fgOp (h : Half) (s : State) : (resetRow h s).fgOp = s.fgOp := by
  unfold resetRow; split
  · rfl
  · split
    · rfl
    · simp [endResetRow]
@[simp] theorem resetRow_status (h : Half) (s : State) : (resetRow h s).status = s.status := by
  unfold resetRow; split
  · rfl
  · split
    · rfl
    · simp [endResetRow]
@[simp] theorem resetRow_trace (h : Half) (s : State) : (resetRow h s).trace = s.trace := by
  unfold resetRow; split
  · rfl
  · split
    · rfl
    · simp [endResetRow]
@[simp] theorem resetRow_encSteps (h : Half) (s : State) : (resetRow h s).encSteps = s.encSteps := by
  unfold resetRow; split
  · rfl
  · split
    · rfl
    · simp [endResetRow]
@[simp] theorem resetRow_faults (h : Half) (s : State) : (resetRow h s).faults = s.faults := by
  unfold resetRow; split
  · rfl
  · split
    · rfl
    · simp [endResetRow]
@[simp] theorem resetRow_refused (h : Half) (s : State) : (resetRow h s).refused = s.refused := by
  unfold resetRow; split
  · rfl
  · split
    · rfl
    · simp [endResetRow]
@[simp] theorem resetRow_cfg (h : Half) (s : State) : (resetRow h s).cfg = s.cfg := by
  unfold resetRow; split
  · rfl
  · split
    · rfl
    · simp [endResetRow]
@[simp] theorem resetRow_words (h : Half) (s : State) : (resetRow h s).words = s.words := by
  unfold resetRow; split
  · rfl
  · split
    · rfl
    · simp [endResetRow]
@[simp] theorem resetRow_moves (h : Half) (s : State) : (resetRow h s).moves = s.moves := by
  unfold resetRow; split
  · rfl
  · split
    · rfl
    · simp [endResetRow]
@[simp] theorem resetRow_allocs (h : Half) (s : State) : (resetRow h s).allocs = s.allocs := by
  unfold resetRow; split
  · rfl
  · split
    · rfl
    · simp [endResetRow]
@[simp] theorem resetRow_drawn (h : Half) (s : State) : (resetRow h s).drawn = s.drawn := by
  unfold resetRow; split
  · rfl
  · split
    · rfl
    · simp [endResetRow]
@[simp] theorem resetRow_rounds (h : Half) (s : State) : (resetRow h s).rounds = s.rounds := by
  unfold resetRow; split
  · rfl
  · split
    · rfl
    · simp [endResetRow]

/-! ### `idleRow` leaves alone -/

@[simp] theorem idleRow_life (s : State) : (idleRow s).life = s.life := by simp [idleRow]
@[simp] theorem idleRow_ledCount (s : State) : (idleRow s).ledCount = s.ledCount := by simp [idleRow]
@[simp] theorem idleRow_resetCount (s : State) : (idleRow s).resetCount = s.resetCount := by simp [idleRow]
@[simp] theorem idleRow_zhw (s : State) : (idleRow s).zhw = s.zhw := by simp [idleRow]
@[simp] theorem idleRow_cursor (s : State) : (idleRow s).cursor = s.cursor := by simp [idleRow]
@[simp] theorem idleRow_led (s : State) : (idleRow s).led = s.led := by simp [idleRow]
@[simp] theorem idleRow_buf (s : State) : (idleRow s).buf = s.buf := by simp [idleRow]
@[simp] theorem idleRow_started (s : State) : (idleRow s).started = s.started := by simp [idleRow]
@[simp] theorem idleRow_curHalf (s : State) : (idleRow s).curHalf = s.curHalf := by simp [idleRow]
@[simp] theorem idleRow_slot (s : State) : (idleRow s).slot = s.slot := by simp [idleRow]
@[simp] theorem idleRow_pending0 (s : State) : (idleRow s).pending0 = s.pending0 := by simp [idleRow]
@[simp] theorem idleRow_pending1 (s : State) : (idleRow s).pending1 = s.pending1 := by simp [idleRow]
@[simp] theorem idleRow_lastEvt (s : State) : (idleRow s).lastEvt = s.lastEvt := by simp [idleRow]
@[simp] theorem idleRow_fgOp (s : State) : (idleRow s).fgOp = s.fgOp := by simp [idleRow]
@[simp] theorem idleRow_status (s : State) : (idleRow s).status = s.status := by simp [idleRow]
@[simp] theorem idleRow_trace (s : State) : (idleRow s).trace = s.trace := by simp [idleRow]
@[simp] theorem idleRow_wlog (s : State) : (idleRow s).wlog = s.wlog := by simp [idleRow]
@[simp] theorem idleRow_encSteps (s : State) : (idleRow s).encSteps = s.encSteps := by simp [idleRow]
@[simp] theorem idleRow_faults (s : State) : (idleRow s).faults = s.faults := by simp [idleRow]
@[simp] theorem idleRow_refused (s : State) : (idleRow s).refused = s.refused := by simp [idleRow]
@[simp] theorem idleRow_cfg (s : State) : (idleRow s).cfg = s.cfg := by simp [idleRow]
@[simp] theorem idleRow_words (s : State) : (idleRow s).words = s.words := by simp [idleRow]
@[simp] theorem idleRow_moves (s : State) : (idleRow s).moves = s.moves := by simp [idleRow]
@[simp] theorem idleRow_allocs (s : State) : (idleRow s).allocs = s.allocs := by simp [idleRow]
@[simp] theorem idleRow_drawn (s : State) : (idleRow s).drawn = s.drawn := by simp [idleRow]
@[simp] theorem idleRow_rounds (s : State) : (idleRow s).rounds = s.rounds := by simp [idleRow]

/-! ### `dataRow` leaves alone -/

@[simp] theorem dataRow_life (h : Half) (s : State) : (dataRow h s).life = s.life := by unfold dataRow; split <;> rfl
@[simp] theorem dataRow_ledCount (h : Half) (s : State) : (dataRow h s).ledCount = s.ledCount := by unfold dataRow; split <;> rfl
@[simp] theorem dataRow_dirty (h : Half) (s : State) : (dataRow h s).dirty = s.dirty := by unfold dataRow; split <;> rfl
@[simp] theorem dataRow_led (h : Half) (s : State) : (dataRow h s).led = s.led := by unfold dataRow; split <;> rfl
@[simp] theorem dataRow_started (h : Half) (s : State) : (dataRow h s).started = s.started := by unfold dataRow; split <;> rfl
@[simp] theorem dataRow_curHalf (h : Half) (s : State) : (dataRow h s).curHalf = s.curHalf := by unfold dataRow; split <;> rfl
@[simp] theorem dataRow_slot (h : Half) (s : State) : (dataRow h s).slot = s.slot := by unfold dataRow; split <;> rfl
@[simp] theorem dataRow_pending0 (h : Half) (s : State) : (dataRow h s).pending0 = s.pending0 := by unfold dataRow; split <;> rfl
@[simp] theorem dataRow_pending1 (h : Half) (s : State) : (dataRow h s).pending1 = s.pending1 := by unfold dataRow; split <;> rfl
@[simp] theorem dataRow_lastEvt (h : Half) (s : State) : (dataRow h s).lastEvt = s.lastEvt := by unfold dataRow; split <;> rfl
@[simp] theorem dataRow_fgOp (h : Half) (s : State) : (dataRow h s).fgOp = s.fgOp := by unfold dataRow; split <;> rfl
@[simp] theorem dataRow_status (h : Half) (s : State) : (dataRow h s).status = s.status := by unfold dataRow; split <;> rfl
@[simp] theorem dataRow_trace (h : Half) (s : State) : (dataRow h s).trace = s.trace := by unfold dataRow; split <;> rfl
@[simp] theorem dataRow_encSteps (h : Half) (s : State) : (dataRow h s).encSteps = s.encSteps := by unfold dataRow; split <;> rfl
@[simp] theorem dataRow_faults (h : Half) (s : State) : (dataRow h s).faults = s.faults := by unfold dataRow; split <;> rfl
@[simp] theorem dataRow_refused (h : Half) (s : State) : (dataRow h s).refused = s.refused := by unfold dataRow; split <;> rfl
@[simp] theorem dataRow_cfg (h : Half) (s : State) : (dataRow h s).cfg = s.cfg := by unfold dataRow; split <;> rfl
@[simp] theorem dataRow_words (h : Half) (s : State) : (dataRow h s).words = s.words := by unfold dataRow; split <;> rfl
@[simp] theorem dataRow_moves (h : Half) (s : State) : (dataRow h s).moves = s.moves := by unfold dataRow; split <;> rfl
@[simp] theorem dataRow_allocs (h : Half) (s : State) : (dataRow h s).allocs = s.allocs := by unfold dataRow; split <;> rfl
@[simp] theorem dataRow_drawn (h : Half) (s : State) : (dataRow h s).drawn = s.drawn := by unfold dataRow; split <;> rfl
@[simp] theorem dataRow_rounds (h : Half) (s : State) : (dataRow h s).rounds = s.rounds := by unfold dataRow; split <;> rfl

/-! ### `checkOverrun` leaves alone -/

@[simp] theorem checkOverrun_life (s : State) : (checkOverrun s).life = s.life := by unfold checkOverrun; split <;> simp
@[simp] theorem checkOverrun_ledCount (s : State) : (checkOverrun s).ledCount = s.ledCount := by unfold checkOverrun; split <;> simp
@[simp] theorem checkOverrun_encState (s : State) : (checkOverrun s).encState = s.encState := by unfold checkOverrun; split <;> simp
@[simp] theorem checkOverrun_resetCount (s : State) : (checkOverrun s).resetCount = s.resetCount := by unfold checkOverrun; split <;> simp
@[simp] theorem checkOverrun_zhw (s : State) : (checkOverrun s).zhw = s.zhw := by unfold checkOverrun; split <;> simp
@[simp] theorem checkOverrun_cursor (s : State) : (checkOverrun s).cursor = s.cursor := by unfold checkOverrun; split <;> simp
@[simp] theorem checkOverrun_dirty (s : State) : (checkOverrun s).dirty = s.dirty := by unfold checkOverrun; split <;> simp
@[simp] theorem checkOverrun_led (s : State) : (checkOverrun s).led = s.led := by unfold checkOverrun; split <;> simp
@[simp] theorem checkOverrun_buf (s : State) : (checkOverrun s).buf = s.buf := by unfold checkOverrun; split <;> simp
@[simp] theorem checkOverrun_started (s : State) : (checkOverrun s).started = s.started := by unfold checkOverrun; split <;> simp
@[simp] theorem checkOverrun_curHalf (s : State) : (checkOverrun s).curHalf = s.curHalf := by unfold checkOverrun; split <;> simp
@[simp] theorem checkOverrun_slot (s : State) : (checkOverrun s).slot = s.slot := by unfold checkOverrun; split <;> simp
@[simp] theorem checkOverrun_pending0 (s : State) : (checkOverrun s).pending0 = s.pending0 := by unfold checkOverrun; split <;> simp
@[simp] theorem checkOverrun_pending1 (s : State) : (checkOverrun s).pending1 = s.pending1 := by unfold checkOverrun; split <;> simp
@[simp] theorem checkOverrun_lastEvt (s : State) : (checkOverrun s).lastEvt = s.lastEvt := by unfold checkOverrun; split <;> simp
@[simp] theorem checkOverrun_fgOp (s : State) : (checkOverrun s).fgOp = s.fgOp := by unfold checkOverrun; split <;> simp
@[simp] theorem checkOverrun_status (s : State) : (checkOverrun s).status = s.status := by unfold checkOverrun; split <;> simp
@[simp] theorem checkOverrun_trace (s : State) : (checkOverrun s).trace = s.trace := by unfold checkOverrun; split <;> simp
@[simp] theorem checkOverrun_wlog (s : State) : (checkOverrun s).wlog = s.wlog := by unfold checkOverrun; split <;> simp
@[simp] theorem checkOverrun_encSteps (s : State) : (checkOverrun s).encSteps = s.encSteps := by unfold checkOverrun; split <;> simp
@[simp] theorem checkOverrun_refused (s : State) : (checkOverrun s).refused = s.refused := by unfold checkOverrun; split <;> simp
@[simp] theorem checkOverrun_cfg (s : State) : (checkOverrun s).cfg = s.cfg := by unfold checkOverrun; split <;> simp
@[simp] theorem checkOverrun_words (s : State) : (checkOverrun s).words = s.words := by unfold checkOverrun; split <;> simp
@[simp] theorem checkOverrun_moves (s : State) : (checkOverrun s).moves = s.moves := by unfold checkOverrun; split <;> simp
@[simp] theorem checkOverrun_allocs (s : State) : (checkOverrun s).allocs = s.allocs := by unfold checkOverrun; split <;> simp
@[simp] theorem checkOverrun_drawn (s : State) : (checkOverrun s).drawn = s.drawn := by unfold checkOverrun; split <;> simp
@[simp] theorem checkOverrun_rounds (s : State) : (checkOverrun s).rounds = s.rounds := by unfold checkOverrun; split <;> simp

/-! ### `checkUnderrun` leaves alone -/

@[simp] theorem checkUnderrun_life (s : State) : (checkUnderrun s).life = s.life := by unfold checkUnderrun; split <;> simp
@[simp] theorem checkUnderrun_ledCount (s : State) : (checkUnderrun s).ledCount = s.ledCount := by unfold checkUnderrun; split <;> simp
@[simp] theorem checkUnderrun_encState (s : State) : (checkUnderrun s).encState = s.encState := by unfold checkUnderrun; split <;> simp
@[simp] theorem checkUnderrun_resetCount (s : State) : (checkUnderrun s).resetCount = s.resetCount := by unfold checkUnderrun; split <;> simp
@[simp] theorem checkUnderrun_zhw (s : State) : (checkUnderrun s).zhw = s.zhw := by unfold checkUnderrun; split <;> simp
@[simp] theorem checkUnderrun_cursor (s : State) : (checkUnderrun s).cursor = s.cursor := by unfold checkUnderrun; split <;> simp
@[simp] theorem checkUnderrun_dirty (s : State) : (checkUnderrun s).dirty = s.dirty := by unfold checkUnderrun; split <;> simp
@[simp] theorem checkUnderrun_led (s : State) : (checkUnderrun s).led = s.led := by unfold checkUnderrun; split <;> simp
@[simp] theorem checkUnderrun_buf (s : State) : (checkUnderrun s).buf = s.buf := by unfold checkUnderrun; split <;> simp
@[simp] theorem checkUnderrun_started (s : State) : (checkUnderrun s).started = s.started := by unfold checkUnderrun; split <;> simp
@[simp] theorem checkUnderrun_curHalf (s : State) : (checkUnderrun s).curHalf = s.curHalf := by unfold checkUnderrun; split <;> simp
@[simp] theorem checkUnderrun_slot (s : State) : (checkUnderrun s).slot = s.slot := by unfold checkUnderrun; split <;> simp
@[simp] theorem checkUnderrun_pending0 (s : State) : (checkUnderrun s).pending0 = s.pending0 := by unfold checkUnderrun; split <;> simp
@[simp] theorem checkUnderrun_pending1 (s : State) : (checkUnderrun s).pending1 = s.pending1 := by unfold checkUnderrun; split <;> simp
@[simp] theorem checkUnderrun_lastEvt (s : State) : (checkUnderrun s).lastEvt = s.lastEvt := by unfold checkUnderrun; split <;> simp
@[simp] theorem checkUnderrun_fgOp (s : State) : (checkUnderrun s).fgOp = s.fgOp := by unfold checkUnderrun; split <;> simp
@[simp] theorem checkUnderrun_status (s : State) : (checkUnderrun s).status = s.status := by unfold checkUnderrun; split <;> simp
@[simp] theorem checkUnderrun_trace (s : State) : (checkUnderrun s).trace = s.trace := by unfold checkUnderrun; split <;> simp
@[simp] theorem checkUnderrun_wlog (s : State) : (checkUnderrun s).wlog = s.wlog := by unfold checkUnderrun; split <;> simp
@[simp] theorem checkUnderrun_encSteps (s : State) : (checkUnderrun s).encSteps = s.encSteps := by unfold checkUnderrun; split <;> simp
@[simp] theorem checkUnderrun_refused (s : State) : (checkUnderrun s).refused = s.refused := by unfold checkUnderrun; split <;> simp
@[simp] theorem checkUnderrun_cfg (s : State) : (checkUnderrun s).cfg = s.cfg := by unfold checkUnderrun; split <;> simp
@[simp] theorem checkUnderrun_words (s : State) : (checkUnderrun s).words = s.words := by unfold checkUnderrun; split <;> simp
@[simp] theorem checkUnderrun_moves (s : State) : (checkUnderrun s).moves = s.moves := by unfold checkUnderrun; split <;> simp
@[simp] theorem checkUnderrun_allocs (s : State) : (checkUnderrun s).allocs = s.allocs := by unfold checkUnderrun; split <;> simp
@[simp] theorem checkUnderrun_drawn (s : State) : (checkUnderrun s).drawn = s.drawn := by unfold checkUnderrun; split <;> simp
@[simp] theorem checkUnderrun_rounds (s : State) : (checkUnderrun s).rounds = s.rounds := by unfold checkUnderrun; split <;> simp

/-! ### `slotEnd` leaves alone -/

@[simp] theorem slotEnd_life (s : State) : (slotEnd s).life = s.life := by simp [slotEnd, beginSlot]
@[simp] theorem slotEnd_ledCount (s : State) : (slotEnd s).ledCount = s.ledCount := by simp [slotEnd, beginSlot]
@[simp] theorem slotEnd_encState (s : State) : (slotEnd s).encState = s.encState := by simp [slotEnd, beginSlot]
@[simp] theorem slotEnd_resetCount (s : State) : (slotEnd s).resetCount = s.resetCount := by simp [slotEnd, beginSlot]
@[simp] theorem slotEnd_zhw (s : State) : (slotEnd s).zhw = s.zhw := by simp [slotEnd, beginSlot]
@[simp] theorem slotEnd_cursor (s : State) : (slotEnd s).cursor = s.cursor := by simp [slotEnd, beginSlot]
@[simp] theorem slotEnd_dirty (s : State) : (slotEnd s).dirty = s.dirty := by simp [slotEnd, beginSlot]
@[simp] theorem slotEnd_led (s : State) : (slotEnd s).led = s.led := by simp [slotEnd, beginSlot]
@[simp] theorem slotEnd_buf (s : State) : (slotEnd s).buf = s.buf := by simp [slotEnd, beginSlot]
@[simp] theorem slotEnd_started (s : State) : (slotEnd s).started = s.started := by simp [slotEnd, beginSlot]
@[simp] theorem slotEnd_fgOp (s : State) : (slotEnd s).fgOp = s.fgOp := by simp [slotEnd, beginSlot]
@[simp] theorem slotEnd_status (s : State) : (slotEnd s).status = s.status := by simp [slotEnd, beginSlot]
@[simp] theorem slotEnd_wlog (s : State) : (slotEnd s).wlog = s.wlog := by simp [slotEnd, beginSlot]
@[simp] theorem slotEnd_encSteps (s : State) : (slotEnd s).encSteps = s.encSteps := by simp [slotEnd, beginSlot]
@[simp] theorem slotEnd_refused (s : State) : (slotEnd s).refused = s.refused := by simp [slotEnd, beginSlot]
@[simp] theorem slotEnd_cfg (s : State) : (slotEnd s).cfg = s.cfg := by simp [slotEnd, beginSlot]
@[simp] theorem slotEnd_words (s : State) : (slotEnd s).words = s.words := by simp [slotEnd, beginSlot]
@[simp] theorem slotEnd_moves (s : State) : (slotEnd s).moves = s.moves := by simp [slotEnd, beginSlot]
@[simp] theorem slotEnd_allocs (s : State) : (slotEnd s).allocs = s.allocs := by simp [slotEnd, beginSlot]
@[simp] theorem slotEnd_drawn (s : State) : (slotEnd s).drawn = s.drawn := by simp [slotEnd, beginSlot]
@[simp] theorem slotEnd_rounds (s : State) : (slotEnd s).rounds = s.rounds := by simp [slotEnd, beginSlot]

/-! ### `streamStep` leaves alone -/

@[simp] theorem streamStep_life (s : State) : (streamStep s).life = s.life := by unfold streamStep; split <;> simp
@[simp] theorem streamStep_ledCount (s : State) : (streamStep s).ledCount = s.ledCount := by unfold streamStep; split <;> simp
@[simp] theorem streamStep_encState (s : State) : (streamStep s).encState = s.encState := by unfold streamStep; split <;> simp
@[simp] theorem streamStep_resetCount (s : State) : (streamStep s).resetCount = s.resetCount := by unfold streamStep; split <;> simp
@[simp] theorem streamStep_zhw (s : State) : (streamStep s).zhw = s.zhw := by unfold streamStep; split <;> simp
@[simp] theorem streamStep_cursor (s : State) : (streamStep s).cursor = s.cursor := by unfold streamStep; split <;> simp
@[simp] theorem streamStep_dirty (s : State) : (streamStep s).dirty = s.dirty := by unfold streamStep; split <;> simp
@[simp] theorem streamStep_led (s : State) : (streamStep s).led = s.led := by unfold streamStep; split <;> simp
@[simp] theorem streamStep_buf (s : State) : (streamStep s).buf = s.buf := by unfold streamStep; split <;> simp
@[simp] theorem streamStep_started (s : State) : (streamStep s).started = s.started := by unfold streamStep; split <;> simp
@[simp] theorem streamStep_fgOp (s : State) : (streamStep s).fgOp = s.fgOp := by unfold streamStep; split <;> simp
@[simp] theorem streamStep_status (s : State) : (streamStep s).status = s.status := by unfold streamStep; split <;> simp
@[simp] theorem streamStep_wlog (s : State) : (streamStep s).wlog = s.wlog := by unfold streamStep; split <;> simp
@[simp] theorem streamStep_encSteps (s : State) : (streamStep s).encSteps = s.encSteps := by unfold streamStep; split <;> simp
@[simp] theorem streamStep_refused (s : State) : (streamStep s).refused = s.refused := by unfold streamStep; split <;> simp
@[simp] theorem streamStep_cfg (s : State) : (streamStep s).cfg = s.cfg := by unfold streamStep; split <;> simp
@[simp] theorem streamStep_words (s : State) : (streamStep s).words = s.words := by unfold streamStep; split <;> simp
@[simp] theorem streamStep_moves (s : State) : (streamStep s).moves = s.moves := by unfold streamStep; split <;> simp
@[simp] theorem streamStep_allocs (s : State) : (streamStep s).allocs = s.allocs := by unfold streamStep; split <;> simp
@[simp] theorem streamStep_drawn (s : State) : (streamStep s).drawn = s.drawn := by unfold streamStep; split <;> simp
@[simp] theorem streamStep_rounds (s : State) : (streamStep s).rounds = s.rounds := by unfold streamStep; split <;> simp

/-! ### `initialise` leaves alone -/

@[simp] theorem initialise_buf (c : BitVec 32) (s : State) : (initialise c s).buf = s.buf := rfl
@[simp] theorem initialise_lastEvt (c : BitVec 32) (s : State) : (initialise c s).lastEvt = s.lastEvt := rfl
@[simp] theorem initialise_fgOp (c : BitVec 32) (s : State) : (initialise c s).fgOp = s.fgOp := rfl
@[simp] theorem initialise_wlog (c : BitVec 32) (s : State) : (initialise c s).wlog = s.wlog := rfl
@[simp] theorem initialise_encSteps (c : BitVec 32) (s : State) : (initialise c s).encSteps = s.encSteps := rfl
@[simp] theorem initialise_faults (c : BitVec 32) (s : State) : (initialise c s).faults = s.faults := rfl
@[simp] theorem initialise_refused (c : BitVec 32) (s : State) : (initialise c s).refused = s.refused := rfl
@[simp] theorem initialise_cfg (c : BitVec 32) (s : State) : (initialise c s).cfg = s.cfg := rfl
@[simp] theorem initialise_words (c : BitVec 32) (s : State) : (initialise c s).words = s.words := rfl
@[simp] theorem initialise_moves (c : BitVec 32) (s : State) : (initialise c s).moves = s.moves := rfl
@[simp] theorem initialise_allocs (c : BitVec 32) (s : State) : (initialise c s).allocs = s.allocs := rfl
@[simp] theorem initialise_drawn (c : BitVec 32) (s : State) : (initialise c s).drawn = s.drawn := rfl
@[simp] theorem initialise_rounds (c : BitVec 32) (s : State) : (initialise c s).rounds = s.rounds := rfl

/-! ### `finalStep` leaves alone -/

@[simp] theorem finalStep_life (op : FgOp) (s : State) : (finalStep op s).life = s.life := rfl
@[simp] theorem finalStep_ledCount (op : FgOp) (s : State) : (finalStep op s).ledCount = s.ledCount := rfl
@[simp] theorem finalStep_encState (op : FgOp) (s : State) : (finalStep op s).encState = s.encState := rfl
@[simp] theorem finalStep_resetCount (op : FgOp) (s : State) : (finalStep op s).resetCount = s.resetCount := rfl
@[simp] theorem finalStep_zhw (op : FgOp) (s : State) : (finalStep op s).zhw = s.zhw := rfl
@[simp] theorem finalStep_cursor (op : FgOp) (s : State) : (finalStep op s).cursor = s.cursor := rfl
@[simp] theorem finalStep_led (op : FgOp) (s : State) : (finalStep op s).led = s.led := rfl
@[simp] theorem finalStep_buf (op : FgOp) (s : State) : (finalStep op s).buf = s.buf := rfl
@[simp] theorem finalStep_started (op : FgOp) (s : State) : (finalStep op s).started = s.started := rfl
@[simp] theorem finalStep_curHalf (op : FgOp) (s : State) : (finalStep op s).curHalf = s.curHalf := rfl
@[simp] theorem finalStep_slot (op : FgOp) (s : State) : (finalStep op s).slot = s.slot := rfl
@[simp] theorem finalStep_pending0 (op : FgOp) (s : State) : (finalStep op s).pending0 = s.pending0 := rfl
@[simp] theorem finalStep_pending1 (op : FgOp) (s : State) : (finalStep op s).pending1 = s.pending1 := rfl
@[simp] theorem finalStep_lastEvt (op : FgOp) (s : State) : (finalStep op s).lastEvt = s.lastEvt := rfl
@[simp] theorem finalStep_trace (op : FgOp) (s : State) : (finalStep op s).trace = s.trace := rfl
@[simp] theorem finalStep_wlog (op : FgOp) (s : State) : (finalStep op s).wlog = s.wlog := rfl
@[simp] theorem finalStep_encSteps (op : FgOp) (s : State) : (finalStep op s).encSteps = s.encSteps := rfl
@[simp] theorem finalStep_faults (op : FgOp) (s : State) : (finalStep op s).faults = s.faults := rfl
@[simp] theorem finalStep_refused (op : FgOp) (s : State) : (finalStep op s).refused = s.refused := rfl
@[simp] theorem finalStep_cfg (op : FgOp) (s : State) : (finalStep op s).cfg = s.cfg := rfl
@[simp] theorem finalStep_words (op : FgOp) (s : State) : (finalStep op s).words = s.words := rfl
@[simp] theorem finalStep_moves (op : FgOp) (s : State) : (finalStep op s).moves = s.moves := rfl
@[simp] theorem finalStep_allocs (op : FgOp) (s : State) : (finalStep op s).allocs = s.allocs := rfl
@[simp] theorem finalStep_drawn (op : FgOp) (s : State) : (finalStep op s).drawn = s.drawn := rfl
@[simp] theorem finalStep_rounds (op : FgOp) (s : State) : (finalStep op s).rounds = s.rounds := rfl

/-! ### `beginCommand` leaves alone -/

@[simp] theorem beginCommand_life (op : Instr) (ws : List LedWrite) (s : State) : (beginCommand op ws s).life = s.life := rfl
@[simp] theorem beginCommand_ledCount (op : Instr) (ws : List LedWrite) (s : State) : (beginCommand op ws s).ledCount = s.ledCount := rfl
@[simp] theorem beginCommand_encState (op : Instr) (ws : List LedWrite) (s : State) : (beginCommand op ws s).encState = s.encState := rfl
@[simp] theorem beginCommand_resetCount (op : Instr) (ws : List LedWrite) (s : State) : (beginCommand op ws s).resetCount = s.resetCount := rfl
@[simp] theorem beginCommand_zhw (op : Instr) (ws : List LedWrite) (s : State) : (beginCommand op ws s).zhw = s.zhw := rfl
@[simp] theorem beginCommand_cursor (op : Instr) (ws : List LedWrite) (s : State) : (beginCommand op ws s).cursor = s.cursor := rfl
@[simp] theorem beginCommand_dirty (op : Instr) (ws : List LedWrite) (s : State) : (beginCommand op ws s).dirty = s.dirty := rfl
@[simp] theorem beginCommand_led (op : Instr) (ws : List LedWrite) (s : State) : (beginCommand op ws s).led = s.led := rfl
@[simp] theorem beginCommand_buf (op : Instr) (ws : List LedWrite) (s : State) : (beginCommand op ws s).buf = s.buf := rfl
@[simp] theorem beginCommand_started (op : Instr) (ws : List LedWrite) (s : State) : (beginCommand op ws s).started = s.started := rfl
@[simp] theorem beginCommand_curHalf (op : Instr) (ws : List LedWrite) (s : State) : (beginCommand op ws s).curHalf = s.curHalf := rfl
@[simp] theorem beginCommand_slot (op : Instr) (ws : List LedWrite) (s : State) : (beginCommand op ws s).slot = s.slot := rfl
@[simp] theorem beginCommand_pending0 (op : Instr) (ws : List LedWrite) (s : State) : (beginCommand op ws s).pending0 = s.pending0 := rfl
@[simp] theorem beginCommand_pending1 (op : Instr) (ws : List LedWrite) (s : State) : (beginCommand op ws s).pending1 = s.pending1 := rfl
@[simp] theorem beginCommand_lastEvt (op : Instr) (ws : List LedWrite) (s : State) : (beginCommand op ws s).lastEvt = s.lastEvt := rfl
@[simp] theorem beginCommand_status (op : Instr) (ws : List LedWrite) (s : State) : (beginCommand op ws s).status = s.status := rfl
@[simp] theorem beginCommand_trace (op : Instr) (ws : List LedWrite) (s : State) : (beginCommand op ws s).trace = s.trace := rfl
@[simp] theorem beginCommand_wlog (op : Instr) (ws : List LedWrite) (s : State) : (beginCommand op ws s).wlog = s.wlog := rfl
@[simp] theorem beginCommand_encSteps (op : Instr) (ws : List LedWrite) (s : State) : (beginCommand op ws s).encSteps = s.encSteps := rfl
@[simp] theorem beginCommand_faults (op : Instr) (ws : List LedWrite) (s : State) : (beginCommand op ws s).faults = s.faults := rfl
@[simp] theorem beginCommand_refused (op : Instr) (ws : List LedWrite) (s : State) : (beginCommand op ws s).refused = s.refused := rfl
@[simp] theorem beginCommand_cfg (op : Instr) (ws : List LedWrite) (s : State) : (beginCommand op ws s).cfg = s.cfg := rfl
@[simp] theorem beginCommand_words (op : Instr) (ws : List LedWrite) (s : State) : (beginCommand op ws s).words = s.words := rfl
@[simp] theorem beginCommand_moves (op : Instr) (ws : List LedWrite) (s : State) : (beginCommand op ws s).moves = s.moves := rfl
@[simp] theorem beginCommand_allocs (op : Instr) (ws : List LedWrite) (s : State) : (beginCommand op ws s).allocs = s.allocs := rfl
@[simp] theorem beginCommand_drawn (op : Instr) (ws : List LedWrite) (s : State) : (beginCommand op ws s).drawn = s.drawn := rfl
@[simp] theorem beginCommand_rounds (op : Instr) (ws : List LedWrite) (s : State) : (beginCommand op ws s).rounds = s.rounds := rfl

/-! ### What the operations write -/

@[simp] theorem initialise_life (c : BitVec 32) (s : State) : (initialise c s).life = .running := rfl
@[simp] theorem initialise_ledCount (c : BitVec 32) (s : State) : (initialise c s).ledCount = c := rfl
@[simp] theorem initialise_encState (c : BitVec 32) (s : State) : (initialise c s).encState = .reset := rfl
@[simp] theorem initialise_resetCount (c : BitVec 32) (s : State) : (initialise c s).resetCount = 0 := rfl
@[simp] theorem initialise_zhw (c : BitVec 32) (s : State) : (initialise c s).zhw = 2 := rfl
@[simp] theorem initialise_cursor (c : BitVec 32) (s : State) : (initialise c s).cursor = 0 := rfl
@[simp] theorem initialise_dirty (c : BitVec 32) (s : State) : (initialise c s).dirty = false := rfl
@[simp] theorem initialise_led (c : BitVec 32) (s : State) : (initialise c s).led = [] := rfl
@[simp] theorem initialise_started (c : BitVec 32) (s : State) : (initialise c s).started = true := rfl
@[simp] theorem initialise_curHalf (c : BitVec 32) (s : State) : (initialise c s).curHalf = .first := rfl
@[simp] theorem initialise_slot (c : BitVec 32) (s : State) : (initialise c s).slot = 0 := rfl
@[simp] theorem initialise_pending0 (c : BitVec 32) (s : State) : (initialise c s).pending0 = false := rfl
@[simp] theorem initialise_pending1 (c : BitVec 32) (s : State) : (initialise c s).pending1 = false := rfl
@[simp] theorem initialise_status (c : BitVec 32) (s : State) : (initialise c s).status = .ok := rfl
@[simp] theorem initialise_trace (c : BitVec 32) (s : State) :
    (initialise c s).trace = s.trace ++ [s.half .first] := rfl

@[simp] theorem finalStep_dirty (op : FgOp) (s : State) : (finalStep op s).dirty = (s.dirty || op.dirtyPending) := rfl
@[simp] theorem finalStep_status (op : FgOp) (s : State) : (finalStep op s).status = .ok := rfl
@[simp] theorem finalStep_fgOp (op : FgOp) (s : State) : (finalStep op s).fgOp = none := rfl

@[simp] theorem idleRow_encState (s : State) : (idleRow s).encState = if s.dirty then .data else .idle := by simp [idleRow]
@[simp] theorem idleRow_dirty (s : State) : (idleRow s).dirty = false := by simp [idleRow]

@[simp] theorem beginCommand_fgOp (op : Instr) (ws : List LedWrite) (s : State) :
    (beginCommand op ws s).fgOp = some ⟨op, ws, true⟩ := rfl

@[simp] theorem slotEnd_curHalf (s : State) : (slotEnd s).curHalf = s.curHalf.other := by simp [slotEnd, beginSlot]
@[simp] theorem slotEnd_slot (s : State) : (slotEnd s).slot = s.slot + 1 := by simp [slotEnd, beginSlot]
@[simp] theorem slotEnd_lastEvt (s : State) : (slotEnd s).lastEvt = s.curHalf := by simp [slotEnd, beginSlot]

/-- The slot that begins shows the half it reads as the buffer has it now (R213, R214). -/
@[simp] theorem slotEnd_trace (s : State) : (slotEnd s).trace = s.trace ++ [s.half s.curHalf.other] := by
  simp [slotEnd, beginSlot, State.half]

/-- The event of the half just consumed is pending, the other as it was (R212). -/
@[simp] theorem slotEnd_pending (s : State) (k : Half) :
    (slotEnd s).pending k = if k = s.curHalf then true else s.pending k := by
  cases k <;> simp [State.pending, slotEnd, beginSlot, eq_comm]

/-- The set of faults after a raise (R242). -/
@[simp] theorem State.mem_raise_faults (s : State) (f : StreamFault) (h : Half) (n : Nat) (r : FaultRecord) :
    r ∈ (if ⟨f, h, n⟩ ∈ s.faults then s.faults else s.faults ++ [⟨f, h, n⟩]) ↔ r ∈ s.faults ∨ r = ⟨f, h, n⟩ := by
  split
  · exact ⟨.inl, fun h => h.elim id (fun e => e ▸ ‹_›)⟩
  · simp

/-- No fault is recorded where neither event is pending (R212). -/
theorem slotEnd_faults_of_clear {s : State} (hc : s.pending s.curHalf = false)
    (ho : s.pending s.curHalf.other = false) : (slotEnd s).faults = s.faults := by
  simp [slotEnd, beginSlot, checkUnderrun, checkOverrun, hc, ho]

end Sys2Proof.Machine
end

