-- ==== Sys2Proof/Laws/Steps.lean ====
section
/-! SUPPORT. What a step can do, said once: one inversion lemma for each of the encoder step, the issue of a word, the
micro-steps, the agents' steps and the step itself. -/

namespace Sys2Proof.Machine

/-- The operation of an event is the encoder step for its half (R139, R140). -/
@[simp] theorem exec_ofEvent (h : Half) (s : State) : exec (Instr.ofEvent h) s = encoderStep h s := by cases h <;> rfl

@[simp] theorem exec_evtHalf0 (s : State) : exec .evtHalf0 s = encoderStep .first s := rfl

@[simp] theorem exec_evtHalf1 (s : State) : exec .evtHalf1 s = encoderStep .second s := rfl

@[simp] theorem event?_ofEvent (h : Half) : (Instr.ofEvent h).event? = some h := by cases h <;> rfl

/-- An encoder step that answers a next state took the rows of its state (R130). -/
theorem encoderStep_cases {h : Half} {s s' : State} (hs : encoderStep h s = .next s') :
    (s.encState = .reset ∧ s' = (resetRow h s.enterEncoder).leaveEncoder h) ∨
    (s.encState = .idle ∧ s' = (idleRow s.enterEncoder).leaveEncoder h) ∨
    (s.encState = .data ∧ s.cursor.toNat < s.ledCount.toNat ∧ s' = (dataRow h s.enterEncoder).leaveEncoder h) := by
  unfold encoderStep at hs
  split at hs
  · exact .inl ⟨‹_›, by injection hs with e; exact e.symm⟩
  · exact .inr (.inl ⟨‹_›, by injection hs with e; exact e.symm⟩)
  · split at hs
    · exact .inr (.inr ⟨‹_›, ‹_›, by injection hs with e; exact e.symm⟩)
    · cases hs

/-- An encoder step stops only where row 5 has no LED to encode. -/
theorem encoderStep_next {h : Half} {s : State} (hs : s.encState = .data → s.cursor.toNat < s.ledCount.toNat) :
    ∃ s', encoderStep h s = .next s' := by
  unfold encoderStep
  split
  · exact ⟨_, rfl⟩
  · exact ⟨_, rfl⟩
  · rw [if_pos (hs ‹_›)]; exact ⟨_, rfl⟩

/-- The rows of RESET (R131, R132, R133). -/
theorem resetRow_cases (h : Half) (s : State) :
    (s.zhw < 2 ∧ resetRow h s = zeroFillRow h s) ∨
    (s.zhw = 2 ∧ s.resetCount < s.cfg.resetCycles ∧ resetRow h s = countRow s) ∨
    (s.zhw = 2 ∧ s.cfg.resetCycles ≤ s.resetCount ∧ resetRow h s = endResetRow s) := by
  unfold resetRow
  by_cases h2 : s.zhw < 2
  · exact .inl ⟨h2, if_pos h2⟩
  · have hz : s.zhw = 2 := by omega
    rw [if_neg h2]
    by_cases hc : s.resetCount < s.cfg.resetCycles
    · exact .inr (.inl ⟨hz, hc, if_pos hc⟩)
    · exact .inr (.inr ⟨hz, by omega, if_neg hc⟩)

/-- The rows of DATA (R135, R136, R137). -/
theorem dataRow_cases (h : Half) (s : State) :
    (s.cursor.toNat + 1 = s.ledCount.toNat ∧ dataRow h s = endPassRow (encodeRow h s)) ∨
    (s.cursor.toNat + 1 ≠ s.ledCount.toNat ∧ dataRow h s = nextLedRow (encodeRow h s)) := by
  unfold dataRow
  split
  · exact .inl ⟨‹_›, rfl⟩
  · exact .inr ⟨‹_›, rfl⟩

/-- What the writes of `SETVS` and `CLEAR` name. -/
theorem mem_rgbWrites {i : Nat} {r g b : Byte} {w : LedWrite} (h : w ∈ rgbWrites i r g b) : w.led = i := by
  simp only [rgbWrites, List.mem_cons, List.not_mem_nil, or_false] at h
  rcases h with h | h | h <;> simp [h]

theorem mem_clearWrites {n : Nat} {w : LedWrite} (h : w ∈ clearWrites n) : w.led < n ∧ w.value = 0 := by
  simp only [clearWrites, rgbWrites, List.mem_flatMap, List.mem_range, List.mem_cons, List.not_mem_nil, or_false] at h
  obtain ⟨i, hi, h | h | h⟩ := h <;> simp [h, hi]

/-- What a host command can do (R100 (1), R190): a refusal, a status, a command begun, or a successful `INIT`. -/
theorem exec_command_cases {i : Instr} {s s' : State} (he : i.event? = none) (hs : exec i s = .next s') :
    (∃ why, s' = s.refuse why) ∨
    (s.life = .running ∧ s' = s.returnStatus .outOfRange) ∨
    (s.life = .running ∧ ∃ op ws, (∀ x ∈ ws, x.led < s.ledCount.toNat) ∧ s' = beginCommand op ws s) ∨
    (s.life = .uninit ∧ (s' = s.returnStatus .allocFailure ∨ s' = s.takeAlloc.returnStatus .allocFailure)) ∨
    (s.life = .uninit ∧ ∃ count : BitVec 32, count ≠ 0 ∧ count.toNat ≤ s.cfg.ledCapacity ∧ s.nextAlloc = true ∧
      s' = initialise count s.takeAlloc) := by
  have hlife : s.life ≠ .running → s.life = .uninit := by cases s.life <;> simp
  cases i with
  | init count =>
    simp only [exec, execInit, allocate] at hs
    injection hs with e
    split at e
    · exact .inl ⟨_, e.symm⟩
    · split at e
      · exact .inl ⟨_, e.symm⟩
      · split at e
        · split at e
          · exact .inr (.inr (.inr (.inr ⟨hlife ‹_›, count, ‹_›, ‹_›, ‹_›, e.symm⟩)))
          · exact .inr (.inr (.inr (.inl ⟨hlife ‹_›, .inr e.symm⟩)))
        · exact .inr (.inr (.inr (.inl ⟨hlife ‹_›, .inl e.symm⟩)))
  | setv idx ch val =>
    simp only [exec, execSetv, whenRunning] at hs
    injection hs with e
    split at e
    · rename_i hr
      cases hi : inRange idx s with
      | false => rw [hi] at e; exact .inr (.inl ⟨hr, e.symm⟩)
      | true =>
        cases hc : Channel.ofField ch with
        | none => rw [hi, hc] at e; exact .inr (.inl ⟨hr, e.symm⟩)
        | some c =>
          rw [hi, hc] at e
          exact .inr (.inr (.inl ⟨hr, _, _, by simpa [inRange] using hi, e.symm⟩))
    · exact .inl ⟨_, e.symm⟩
  | setvs idx r g b =>
    simp only [exec, execSetvs, whenRunning] at hs
    injection hs with e
    split at e
    · split at e
      · rename_i hr hi
        refine .inr (.inr (.inl ⟨hr, _, _, fun x hx => ?_, e.symm⟩))
        rw [mem_rgbWrites hx]
        simpa [inRange] using hi
      · exact .inr (.inl ⟨‹_›, e.symm⟩)
    · exact .inl ⟨_, e.symm⟩
  | clear =>
    simp only [exec, execClear, whenRunning] at hs
    injection hs with e
    split at e
    · exact .inr (.inr (.inl ⟨‹_›, _, _, fun x hx => (mem_clearWrites hx).1, e.symm⟩))
    · exact .inl ⟨_, e.symm⟩
  | evtHalf0 => cases he
  | evtHalf1 => cases he

/-- A host command always answers a next state. -/
theorem exec_command_next {i : Instr} (he : i.event? = none) (s : State) : ∃ s', exec i s = .next s' := by
  cases i with
  | init count => exact ⟨_, rfl⟩
  | setv idx ch val => exact ⟨_, rfl⟩
  | setvs idx r g b => exact ⟨_, rfl⟩
  | clear => exact ⟨_, rfl⟩
  | evtHalf0 => cases he
  | evtHalf1 => cases he

/-- The issue of a word refuses it or runs the command it spells (R85, R87). -/
theorem issue_cases {w : OpWord} {s s' : State} (hs : issue w s = .next s') :
    (∃ why, s' = s.refuse why) ∨ (∃ i, decode w = .instr i ∧ i.event? = none ∧ exec i s = .next s') := by
  unfold issue at hs
  cases hd : decode w with
  | illegal why => rw [hd] at hs; injection hs with e; exact .inl ⟨_, e.symm⟩
  | instr i =>
    simp only [hd] at hs
    cases he : i.event? with
    | some h => rw [he] at hs; injection hs with e; exact .inl ⟨_, e.symm⟩
    | none => rw [he] at hs; exact .inr ⟨i, rfl, he, hs⟩

/-- The issue of a word always answers a next state. -/
theorem issue_next (w : OpWord) (s : State) : ∃ s', issue w s = .next s' := by
  unfold issue
  cases hd : decode w with
  | illegal why => exact ⟨_, rfl⟩
  | instr i =>
    dsimp only
    cases he : i.event? with
    | some h => exact ⟨_, rfl⟩
    | none => exact exec_command_next he s

/-- What a micro-step of a command in progress can do (R100 (2), (3)): one of its pending byte writes, or, where none
is pending, the final micro-step. -/
theorem microStep_cases {pick : Nat} {op : FgOp} {s s' : State} (hs : microStep pick op s = .next s') :
    (op.writes = [] ∧ s' = finalStep op s) ∨
    (∃ k w, op.writes[k]? = some w ∧ w.led < s.ledCount.toNat ∧
      s' = { s.writeLed w.led w.channel w.value with fgOp := some { op with writes := op.writes.eraseIdx k } }) := by
  unfold microStep at hs
  split at hs
  · injection hs with e
    exact .inl ⟨List.isEmpty_iff.mp ‹_›, e.symm⟩
  · rename_i hne
    have hlen : 0 < op.writes.length := by
      cases hw : op.writes with
      | nil => simp [hw] at hne
      | cons _ _ => simp
    unfold byteStep at hs
    split at hs
    · rename_i hnone
      have := List.getElem?_eq_none_iff.mp hnone
      have := Nat.mod_lt pick hlen
      omega
    · split at hs
      · injection hs with e
        exact .inr ⟨_, _, ‹_›, ‹_›, e.symm⟩
      · cases hs

/-- A micro-step answers a next state where every pending write is to a cell that exists. -/
theorem microStep_next {pick : Nat} {op : FgOp} {s : State} (h : ∀ w ∈ op.writes, w.led < s.ledCount.toNat) :
    ∃ s', microStep pick op s = .next s' := by
  unfold microStep byteStep
  split
  · exact ⟨_, rfl⟩
  · split
    · exact ⟨_, rfl⟩
    · rw [if_pos (h _ (List.mem_of_getElem? ‹_›))]; exact ⟨_, rfl⟩

/-- What a foreground step can do. -/
theorem foregroundStep_cases {pick : Nat} {s s' : State} (hs : foregroundStep pick s = .next s') :
    (∃ op, s.fgOp = some op ∧ microStep pick op s = .next s') ∨
    (s.fgOp = none ∧ s.words = [] ∧ s' = s) ∨
    (∃ w ws, s.fgOp = none ∧ s.words = w :: ws ∧ issue w { s with words := ws } = .next s') := by
  unfold foregroundStep at hs
  split at hs
  · exact .inl ⟨_, ‹_›, hs⟩
  · split at hs
    · injection hs with e; exact .inr (.inl ⟨‹_›, ‹_›, e.symm⟩)
    · exact .inr (.inr ⟨_, _, ‹_›, ‹_›, hs⟩)

/-- What an encoder agent's step can do: nothing where none is enabled, else the step for the serviced half (R130). -/
theorem encoderAgentStep_cases {s s' : State} (hs : encoderAgentStep s = .next s') :
    (encoderTurn s = none ∧ s' = s) ∨
    (∃ h, s.life = .running ∧ s.servicedHalf = some h ∧ encoderStep h s = .next s') := by
  unfold encoderAgentStep at hs
  split at hs
  · rename_i h ht
    unfold encoderTurn at ht
    split at ht
    · exact .inr ⟨h, ‹_›, ht, by simpa using hs⟩
    · cases ht
  · injection hs with e; exact .inl ⟨‹_›, e.symm⟩

/-- A step is the step of the agent whose turn it is (R5). -/
theorem step_cases {s s' : State} (hs : step s = .next s') :
    (s.nextMove = .stream ∧ s' = streamStep s.takeMove) ∨
    (s.nextMove = .encoder ∧ encoderAgentStep s.takeMove = .next s') ∨
    (∃ pick, s.nextMove = .foreground pick ∧ foregroundStep pick s.takeMove = .next s') := by
  unfold step at hs
  cases hm : s.nextMove with
  | stream => rw [hm] at hs; injection hs with e; exact .inl ⟨rfl, e.symm⟩
  | encoder => rw [hm] at hs; exact .inr (.inl ⟨rfl, hs⟩)
  | foreground pick => rw [hm] at hs; exact .inr (.inr ⟨pick, rfl, hs⟩)

end Sys2Proof.Machine
end

