-- ==== Sys2Proof/Laws/PerInstr.lean ====
section
/-! SUPPORT. Facts about each instruction as syntax, one lemma per constructor. -/

namespace Sys2Proof.Laws

/-- The `OP` of an operation (R84). -/
def OpOfWord.code : Instr → BitVec 4
  | .init _ => 0x1#4
  | .setv _ _ _ => 0x2#4
  | .setvs _ _ _ _ => 0x3#4
  | .clear => 0x4#4
  | .evtHalf0 => 0x8#4
  | .evtHalf1 => 0x9#4

/-- Bits 63 to 60 of the word of an operation are its `OP` (R81, R84). -/
def OpOfWord.Statement (i : Instr) : Prop := opField (encode i) = OpOfWord.code i

theorem OpOfWord.init (count : BitVec 32) : OpOfWord.Statement (.init count) := by
  unfold OpOfWord.Statement opField encode
  dsimp only
  rw [BitVec.extractLsb'_append_eq_of_le (by omega)]
  rfl

theorem OpOfWord.setv (idx : BitVec 32) (ch : BitVec 2) (val : Byte) : OpOfWord.Statement (.setv idx ch val) := by
  unfold OpOfWord.Statement opField encode
  dsimp only
  rw [BitVec.extractLsb'_append_eq_of_le (by omega), BitVec.extractLsb'_append_eq_of_le (by omega),
    BitVec.extractLsb'_append_eq_of_le (by omega), BitVec.extractLsb'_append_eq_of_le (by omega)]
  rfl

theorem OpOfWord.setvs (idx : BitVec 32) (r g b : Byte) : OpOfWord.Statement (.setvs idx r g b) := by
  unfold OpOfWord.Statement opField encode
  dsimp only
  rw [BitVec.extractLsb'_append_eq_of_le (by omega), BitVec.extractLsb'_append_eq_of_le (by omega),
    BitVec.extractLsb'_append_eq_of_le (by omega), BitVec.extractLsb'_append_eq_of_le (by omega)]
  rfl

theorem OpOfWord.clear : OpOfWord.Statement .clear := rfl

theorem OpOfWord.evtHalf0 : OpOfWord.Statement .evtHalf0 := rfl

theorem OpOfWord.evtHalf1 : OpOfWord.Statement .evtHalf1 := rfl

end Sys2Proof.Laws
end

