-- ==== Sys2Proof/Laws/Runs.lean ====
section
/-! SUPPORT. The schedule of a run: no agent's step touches it, so it is used up move by move, and every turn is owed
again and again (R216). -/

namespace Sys2Proof.Machine

/-- A step uses up its move and leaves the rest of the schedule as it was. -/
theorem step_schedule {s s' : State} (hs : step s = .next s') :
    s'.moves = s.takeMove.moves ∧ s'.rounds = s.takeMove.rounds := by
  generalize hu : s.takeMove = u
  rcases step_cases hs with ⟨_, rfl⟩ | ⟨_, h⟩ | ⟨_, _, h⟩ <;> rw [hu] at *
  · simp
  · rcases encoderAgentStep_cases h with ⟨_, rfl⟩ | ⟨_, _, _, h⟩
    · simp
    · rcases encoderStep_cases h with ⟨_, rfl⟩ | ⟨_, rfl⟩ | ⟨_, _, rfl⟩ <;> simp
  · rcases foregroundStep_cases h with ⟨_, _, h⟩ | ⟨_, _, rfl⟩ | ⟨_, _, _, _, h⟩
    · rcases microStep_cases h with ⟨_, rfl⟩ | ⟨_, _, _, _, rfl⟩ <;> simp
    · simp
    · rcases issue_cases h with ⟨_, rfl⟩ | ⟨_, _, he, h⟩
      · simp
      · rcases exec_command_cases he h with ⟨_, rfl⟩ | ⟨_, rfl⟩ | ⟨_, _, _, _, rfl⟩ | ⟨_, rfl | rfl⟩ | ⟨_, _, _, _, _, rfl⟩ <;>
          simp

/-- Where a round begins, the next move is the one owed in it. -/
theorem State.nextMove_of_nil {s : State} (h : s.moves = []) : s.nextMove = s.owedMoves.1 := by
  unfold State.nextMove; rw [h]

/-- A prescribed move is the next one. -/
theorem State.nextMove_of_cons {s : State} {m : Move} {ms : List Move} (h : s.moves = m :: ms) : s.nextMove = m := by
  unfold State.nextMove; rw [h]

namespace IsRun

variable {r : Nat → State}

/-- From every point of a run on, a round begins, with the rounds begun before as many as at that point. -/
theorem round_begins (hr : IsRun r) (n : Nat) : ∃ m, n ≤ m ∧ (r m).moves = [] ∧ (r m).rounds = (r n).rounds := by
  generalize hk : (r n).moves.length = k
  induction k generalizing n with
  | zero => exact ⟨n, Nat.le_refl n, List.length_eq_zero_iff.mp hk, rfl⟩
  | succ k ih =>
    have hne : (r n).moves ≠ [] := fun h => by simp [h] at hk
    obtain ⟨hm, hd⟩ := step_schedule (hr n)
    simp only [State.takeMove_moves, State.takeMove_rounds, if_neg hne] at hm hd
    obtain ⟨m, hle, h0, hround⟩ := ih (n + 1) (by rw [hm, List.length_tail, hk]; rfl)
    exact ⟨m, by omega, h0, by rw [hround, hd]⟩

/-- From every point of a run on, a round begins after any number of others. -/
theorem round_comes (hr : IsRun r) (n k : Nat) : ∃ m, n ≤ m ∧ (r m).moves = [] ∧ (r m).rounds = (r n).rounds + k := by
  induction k with
  | zero => exact hr.round_begins n
  | succ k ih =>
    obtain ⟨m, hle, h0, hk⟩ := ih
    obtain ⟨_, hd⟩ := step_schedule (hr m)
    rw [State.takeMove_rounds, if_pos h0] at hd
    obtain ⟨m', hle', h0', hk'⟩ := hr.round_begins (m + 1)
    exact ⟨m', by omega, h0', by rw [hk', hd, hk]; rfl⟩

/-- From every point of a run on, a round begins in which the given turn is owed (R216). -/
theorem turn_comes (hr : IsRun r) (n : Nat) (t : Turn) : ∃ m, n ≤ m ∧ (r m).moves = [] ∧ turnOf (r m).rounds = t := by
  have hturn : ∃ k, turnOf ((r n).rounds + k) = t := by
    have hres : ∀ c, c < 4 → ∃ k, ((r n).rounds + k) % 4 = c := fun c hc =>
      ⟨(4 - (r n).rounds % 4) % 4 + c, by omega⟩
    cases t with
    | stream => obtain ⟨k, hk⟩ := hres 0 (by decide); exact ⟨k, by simp [turnOf, hk]⟩
    | event h =>
      cases h with
      | first => obtain ⟨k, hk⟩ := hres 1 (by decide); exact ⟨k, by simp [turnOf, hk]⟩
      | second => obtain ⟨k, hk⟩ := hres 2 (by decide); exact ⟨k, by simp [turnOf, hk]⟩
    | foreground => obtain ⟨k, hk⟩ := hres 3 (by decide); exact ⟨k, by simp [turnOf, hk]⟩
  obtain ⟨k, hk⟩ := hturn
  obtain ⟨m, hle, h0, hm⟩ := hr.round_comes n k
  exact ⟨m, hle, h0, by rw [hm, hk]⟩

end IsRun

end Sys2Proof.Machine
end

