-- ==== Sys2Proof/Tests/Slice0.lean ====
section
/-! SUPPORT. The model's own tests and the witnesses of the statements' hypotheses. Every expected result is taken from
`spec/95_test_vectors.md` or worked out by hand from the rule named. -/

namespace Sys2Proof.Tests

open Sys2Proof Sys2Proof.Machine

/-! ### Small states -/

/-- Parameters that R6 admits, at the lower bounds of `RESET_CYCLES` and `T_SHORT`. -/
def params : Params := ⟨10, 1, 3, 8, 5, true⟩

/-- The block after reset, with those parameters and the two registers that `INIT` does not write made concrete. -/
def fresh : State := { State.reset with cfg := params, lastEvt := .second, status := .ok }

/-- The block after a successful `INIT n` (R40, third column). -/
def running (n : BitVec 32) : State := initialise n fresh

/-- The block with one half event pending. -/
def withEvent (h : Half) (s : State) : State := s.setPending h true

/-- A running block whose next command is `w`, the foreground moving next. -/
def issuing (w : OpWord) (s : State) : State := { s with words := [w], moves := [.foreground 0] }

/-- A running block in RESET at the given counters. -/
def inReset (zhw : Fin 3) (count : Nat) (dirty : Bool) : State :=
  { running 3 with zhw := zhw, resetCount := count, dirty := dirty }

/-- A running block in IDLE. -/
def inIdle (dirty : Bool) : State := { running 1 with encState := .idle, resetCount := 10, dirty := dirty }

/-- A running block with three LEDs in DATA, LED 0 being `(255, 0, 0x80)`. -/
def inData (cursor : BitVec 32) : State :=
  { running 3 with encState := .data, resetCount := 10, cursor := cursor, led := [(0, 255#8), (2, 0x80#8)] }

/-- A running block whose deadline may be missed. -/
def missing (s : State) : State := { s with cfg := { params with deadlineMet := false } }

/-- The end of a pass with an update waiting, all events serviced, twelve steps after the start. -/
def endOfPass : State :=
  { running 1 with zhw := 0, dirty := true, encSteps := 12, slot := 12, trace := List.replicate 13 zeroHalf }

/-- The state a step leads to, if it does. -/
def next? (o : Host.Outcome State Fault Refusal) : Option State :=
  match o with
  | .next s => some s
  | .fault _ => none
  | .refused _ => none

/-- A field of the state a step leads to. -/
def after {α : Type} (o : Host.Outcome State Fault Refusal) (f : State → α) : Option α := (next? o).map f

/-! ### Well-formedness of a trace line (R90) -/

theorem test_wf_init : (TraceLine.init (2 ^ 32 - 1)).wellFormed = true ∧ (TraceLine.init (2 ^ 32)).wellFormed = false := by decide

theorem test_wf_setv_index : (TraceLine.setv (2 ^ 32 - 1) 3 255).wellFormed = true ∧ (TraceLine.setv (2 ^ 32) 3 255).wellFormed = false := by decide

theorem test_wf_setv_channel : (TraceLine.setv 0 4 0).wellFormed = false := by decide

theorem test_wf_setv_value : (TraceLine.setv 0 0 256).wellFormed = false := by decide

theorem test_wf_setvs_index : (TraceLine.setvs (2 ^ 32) 0 0 0).wellFormed = false := by decide

theorem test_wf_setvs_red : (TraceLine.setvs 0 256 0 0).wellFormed = false := by decide

theorem test_wf_setvs_green : (TraceLine.setvs 0 0 256 0).wellFormed = false := by decide

theorem test_wf_setvs_blue : (TraceLine.setvs 0 255 255 255).wellFormed = true ∧ (TraceLine.setvs 0 0 0 256).wellFormed = false := by decide

theorem test_ill_formed_line_spells_no_word : (TraceLine.setv 0 4 0).toWord? = none := by decide

/-! ### Words written out from the formats of R82, and W1 to W17 -/

/-- `F_CNT`: OP 0001, 28 zeros, COUNT. -/
theorem test_decode_init : decode 0b0001000000000000000000000000000000000000000000000000000000000011#64 = .instr (.init 3) := by decide

/-- `F_SV`: OP 0010, 00, CH 01, 16 zeros, VAL 11111111, IDX. -/
theorem test_decode_setv : decode 0b0010000100000000000000001111111100000000000000000000000000000000#64 = .instr (.setv 0 1 255) := by decide

theorem test_decode_setv_channel_three : decode 0x2300000700000000#64 = .instr (.setv 0 3 7) := by decide

/-- `F_SVS`: OP 0011, 0000, R, G, B, IDX. -/
theorem test_decode_setvs : decode 0b0011000000001010000101000001111000000000000000000000000000000001#64 = .instr (.setvs 1 10 20 30) := by decide

theorem test_decode_setvs_all_ones : decode 0x30FFFFFFFFFFFFFF#64 = .instr (.setvs 0xFFFFFFFF 255 255 255) := by decide

/-- `F_Z`: OP and 60 zeros. -/
theorem test_decode_clear : decode 0x4000000000000000#64 = .instr .clear := by decide

theorem test_decode_evtHalf0 : decode 0x8000000000000000#64 = .instr .evtHalf0 := by decide

theorem test_decode_evtHalf1 : decode 0x9000000000000000#64 = .instr .evtHalf1 := by decide

theorem test_decode_reserved : decode 0#64 = .illegal (.reservedOp 0) ∧ decode 0x5000000000000000#64 = .illegal (.reservedOp 5) ∧ decode 0xFFFFFFFFFFFFFFFF#64 = .illegal (.reservedOp 15) := by decide

theorem test_decode_nonzero_field : decode 0x1000000100000003#64 = .illegal (.nonzeroField 1) ∧ decode 0x2400000000000000#64 = .illegal (.nonzeroField 2) ∧ decode 0x2001000000000000#64 = .illegal (.nonzeroField 2) ∧ decode 0x3F00000000000000#64 = .illegal (.nonzeroField 3) ∧ decode 0x4000000000000001#64 = .illegal (.nonzeroField 4) := by decide

theorem test_decodeTableWord : decodeTableWord 64 0x1000000000000003 = some (.init 3) ∧ decodeTableWord 64 0 = none := by decide

/-- The lines and words of R91 and P1 to P3. -/
theorem test_assemble : assembleLine "init 3".toList = some 0x1000000000000003#64 ∧ assembleLine "setvs 1, 10, 20, 30".toList = some 0x300A141E00000001#64 ∧ assembleLine "setv 2, r, 5".toList = some 0x2000000500000002#64 ∧ assembleLine "setv 0, #3, 7 ; out of range".toList = some 0x2300000700000000#64 := by decide +kernel

theorem test_assemble_rejects : assembleLine "setv 0, r, 256".toList = none ∧ assembleLine "setv 0, #4, 7".toList = none := by decide +kernel

/-! ### The colour table (T1 to T6) -/

theorem test_ct : (ct params 0).toList = List.replicate 8 1 ∧ (ct params 255).toList = List.replicate 8 3 ∧ (ct params 0x80).toList = [3, 1, 1, 1, 1, 1, 1, 1] ∧ (ct params 1).toList = [1, 1, 1, 1, 1, 1, 1, 3] ∧ (ct params 0xA5).toList = [3, 1, 3, 1, 1, 3, 1, 3] ∧ (ct params 0x5A).toList = [1, 3, 1, 3, 3, 1, 3, 1] := by decide +kernel

/-! ### Commands (C1 to C18) -/

/-- C12: `init 3`. -/
theorem test_init_ok : after (exec (.init 3) { fresh with allocs := [true] }) (fun t => (t.life, t.ledCount, t.zhw, t.started, t.status)) = some (.running, 3, 2, true, .ok) ∧ after (exec (.init 3) { fresh with allocs := [true] }) (fun t => t.trace == [zeroHalf]) = some true := by decide +kernel

/-- C13, C14, C15, C16: a failed draw, too many LEDs, none, and a second `INIT`. -/
theorem test_init_stops : after (exec (.init 5) { fresh with allocs := [false] }) (fun t => (t.life, t.status)) = some (.uninit, .allocFailure) ∧ after (exec (.init 6) fresh) (fun t => (t.life, t.started, t.status)) = some (.uninit, false, .allocFailure) ∧ after (exec (.init 0) fresh) (·.refused) = some true ∧ after (exec (.init 3) (running 3)) (fun t => (t.life, t.refused)) = some (.running, true) := by decide +kernel

/-- C1: `setv 1, g, 7`, all three micro-steps. -/
theorem test_setv_ok : after (runForeground [0, 0, 0] (issuing 0x2100000700000001#64 (running 3))) (fun t => (t.readLed 1 .r, t.readLed 1 .g, t.readLed 1 .b, t.dirty, t.status)) = some (0, 7, 0, true, .ok) := by decide +kernel

/-- C2, C3, C11: an index or a channel out of range, and no `INIT`. -/
theorem test_setv_stops : after (exec (.setv 3 0 1) (running 3)) (fun t => (t.status, t.dirty, t.led)) = some (.outOfRange, false, []) ∧ after (exec (.setv 0 3 1) (running 3)) (fun t => (t.status, t.fgOp)) = some (.outOfRange, none) ∧ after (exec (.setv 0 0 1) fresh) (fun t => (t.refused, t.fgOp)) = some (true, none) := by decide +kernel

/-- C6: `setvs 2, 1, 2, 3`, the bytes in the order B, R, G. -/
theorem test_setvs_ok : after (runForeground [0, 2, 0, 0, 0] (issuing 0x3001020300000002#64 (running 3))) (fun t => (t.led, t.dirty, t.status, t.fgOp)) = some ([(6, 1), (7, 2), (8, 3)], true, .ok, none) := by decide +kernel

/-- C7: the index out of range. -/
theorem test_setvs_stops : after (exec (.setvs 3 1 2 3) (running 3)) (fun t => (t.status, t.dirty)) = some (.outOfRange, false) ∧ after (exec (.setvs 0xFFFFFFFF 1 2 3) (running 3)) (fun t => (t.status, t.fgOp)) = some (.outOfRange, none) := by decide +kernel

/-- C8: `clear` after an update. -/
theorem test_clear_ok : after (runForeground (List.replicate 11 0) (issuing 0x4000000000000000#64 { running 3 with led := [(0, 9), (1, 9), (2, 9)] })) (fun t => (t.led, t.dirty, t.status, t.fgOp)) = some ([], true, .ok, none) := by decide +kernel

/-- C10: `clear` right after block reset. -/
theorem test_clear_refused : after (exec .clear fresh) (fun t => (t.refused, t.fgOp, t.life)) = some (true, none, .uninit) := by decide +kernel

/-! ### Encoder steps (E1 to E14) -/

/-- E11: LED 0 `(255, 0, 0x80)` goes to half 0. -/
theorem test_evtHalf0_data : after (exec .evtHalf0 (withEvent .first (inData 0))) (fun t => ((t.half .first).toList, t.cursor, t.encState, t.pending0)) = some (List.replicate 8 3 ++ List.replicate 8 1 ++ [3, 1, 1, 1, 1, 1, 1, 1], 1, .data, false) := by decide +kernel

/-- E2, E5: the second zero fill, and the end of RESET without an update. -/
theorem test_evtHalf0_reset : after (exec .evtHalf0 (inReset 1 0 false)) (fun t => (t.zhw, t.resetCount, t.encState)) = some (2, 0, .reset) ∧ after (exec .evtHalf0 (inReset 2 10 false)) (fun t => (t.encState, t.cursor)) = some (.idle, 0) := by decide +kernel

/-- E12: the last LED, `(0, 0, 0)`, goes to half 1 and ends the pass. -/
theorem test_evtHalf1_data : after (exec .evtHalf1 (withEvent .second (inData 2))) (fun t => ((t.half .second).toList, t.encState, t.cursor)) = some (List.replicate 24 1, .reset, 0) ∧ after (exec .evtHalf1 (withEvent .second (inData 2))) (fun t => (t.resetCount, t.zhw, t.pending1)) = some (0, 0, false) := by decide +kernel

/-- E4, E10: the last count, and an update seen in IDLE. -/
theorem test_evtHalf1_wait : after (exec .evtHalf1 (inReset 2 9 false)) (fun t => (t.resetCount, t.encState)) = some (10, .reset) ∧ after (exec .evtHalf1 (inIdle true)) (fun t => (t.encState, t.dirty)) = some (.data, false) := by decide +kernel

/-! ### The stream (S2 to S6) -/

/-- S2, S3: a slot end, and the wait for the encoder. -/
theorem test_slot_end : (streamStep (running 1)).pending0 = true ∧ (streamStep (running 1)).lastEvt = .first ∧ (streamStep (running 1)).curHalf = .second ∧ (streamStep (running 1)).slot = 1 ∧ streamStep (streamStep (running 1)) = streamStep (running 1) := by decide +kernel

/-- S4, S5: the faults of P6. -/
theorem test_missed_deadline : (streamStep (streamStep (streamStep (missing (running 1))))).faults = [⟨.underrun, .first, 2⟩, ⟨.overrun, .first, 2⟩, ⟨.underrun, .second, 3⟩] := by decide +kernel

/-- S6: both events pending, the older is serviced. -/
theorem test_older_event_first : ({ withEvent .first (withEvent .second (running 1)) with lastEvt := .first } : State).servicedHalf = some .second := by decide +kernel

/-! ### The interface: a word of every row runs as the first step after reset -/

theorem test_fetch_commands : after (step (State.reset.withFetchWord 64 0x2000000000000000)) (·.refused) = some true ∧ after (step (State.reset.withFetchWord 64 0x3000000000000000)) (·.refused) = some true ∧ after (step (State.reset.withFetchWord 64 0x4000000000000000)) (·.refused) = some true ∧ after (step (State.reset.withFetchWord 64 0x1000000000000000)) (·.refused) = some true := by decide +kernel

theorem test_fetch_init : after (step (State.withFetchWord { fresh with allocs := [true] } 64 0x1000000000000003)) (·.ledCount) = some 3 := by decide +kernel

theorem test_fetch_events : (next? (step (State.reset.withFetchWord 64 0x8000000000000000))).isSome = true ∧ (next? (step (State.reset.withFetchWord 64 0x9000000000000000))).isSome = true := by decide +kernel

/-! ### Witnesses: for every statement with hypotheses, states and operands that meet them -/

theorem witness_legal_word : decode 0x30FFFFFFFFFFFFFF#64 = .instr (.setvs 0xFFFFFFFF 255 255 255) := by decide

theorem witness_opcode_table : opcodeTable.map (fun r => r.holds r.bits) = List.replicate 6 true ∧ decode 0x23000007FFFFFFFF#64 = .instr (.setv 0xFFFFFFFF 3 7) := by decide

theorem witness_step_command : (issuing 0x1000000000000003#64 fresh).nextMove = .foreground 0 ∧ (issuing 0x1000000000000003#64 fresh).fgOp = none ∧ (issuing 0x1000000000000003#64 fresh).words = [0x1000000000000003#64] ∧ decode 0x1000000000000003#64 = .instr (.init 3) ∧ (Instr.init 3).event? = none := by decide

/-- One event of each half, both with either of them older, and none, in a running block whose encoder moves next. -/
theorem witness_step_event : let s : State := { running 1 with moves := [.encoder] }
    s.nextMove = .encoder ∧ s.life = .running ∧ s.pending0 = false ∧ s.pending1 = false ∧
    (withEvent .first s).pending0 = true ∧ (withEvent .first s).pending1 = false ∧
    (withEvent .second s).pending0 = false ∧ (withEvent .second s).pending1 = true ∧
    (withEvent .first (withEvent .second s)).pending0 = true ∧ (withEvent .first (withEvent .second s)).pending1 = true ∧
    (withEvent .first (withEvent .second s)).lastEvt = .second ∧
    ({ withEvent .first (withEvent .second s) with lastEvt := .first } : State).lastEvt = .first := by decide

theorem witness_fetch : Instr.clear.event? = none ∧ Instr.evtHalf1.event? = some .second ∧ (running 1).life = .running := by decide

/-- One word for each reason of R85, and the two event words of R87, at a port that is free. -/
theorem witness_refused_words : (issuing 0#64 fresh).nextMove = .foreground 0 ∧ (issuing 0#64 fresh).fgOp = none ∧
    (issuing 0#64 fresh).words = [0#64] ∧
    ([0#64, 0x5000000000000000#64, 0xF000000000000000#64].map fun w : OpWord => (w.extractLsb' 60 4).toNat) = [0, 5, 15] ∧
    (0x1000000100000000#64).extractLsb' 32 28 = 1#28 ∧ (0x2400000000000000#64).extractLsb' 58 2 = 1#2 ∧
    (0x2000010000000000#64).extractLsb' 40 16 = 1#16 ∧ (0x3100000000000000#64).extractLsb' 56 4 = 1#4 ∧
    (0x4000000000000001#64).extractLsb' 0 60 = 1#60 ∧ (0x8000000000000001#64).extractLsb' 0 60 = 1#60 ∧
    (0x9800000000000000#64).extractLsb' 0 60 ≠ 0 ∧
    (issuing 0x8000000000000000#64 fresh).words = [0x8000000000000000#64] ∧
    (issuing 0x9000000000000000#64 fresh).words = [0x9000000000000000#64] := by decide

/-- Both values of `LIFE`. -/
theorem witness_life : fresh.life = .uninit ∧ (running 3).life = .running := by decide

/-- The five clauses of `INIT`, at the capacity and just above it. -/
theorem witness_init : fresh.life = .uninit ∧ (running 3).life = .running ∧ fresh.cfg.ledCapacity < (6#32).toNat ∧
    (5#32).toNat ≤ fresh.cfg.ledCapacity ∧ (1#32) ≠ 0 ∧ ({ fresh with allocs := [true] } : State).nextAlloc = true ∧
    ({ fresh with allocs := [false] } : State).nextAlloc = false := by decide

/-- A step of a running block, one that stays before `INIT`, and one that is the `INIT`. -/
theorem witness_count_steps : let i : State := { issuing 0x1000000000000003#64 fresh with allocs := [true] }
    after (step (issuing 0x4000000000000000#64 (running 3))) (·.life) = some .running ∧
    after (step (issuing 0x4000000000000000#64 fresh)) (·.life) = some .uninit ∧
    after (step i) (·.life) = some .running := by decide +kernel

/-- `SETV` before `INIT`, at `IDX = N`, at `CH = 3`, and at the last LED and channel. -/
theorem witness_setv : fresh.life = .uninit ∧ (running 3).life = .running ∧ (running 3).ledCount.toNat ≤ (3#32).toNat ∧
    2 < (3#2).toNat ∧ (2#32).toNat < (running 3).ledCount.toNat ∧ (2#2).toNat = Channel.b.index ∧ (running 3).led.wf = true := by decide

theorem witness_setvs : (running 3).life = .running ∧ (running 3).ledCount.toNat ≤ (3#32).toNat ∧
    (2#32).toNat < (running 3).ledCount.toNat ∧ (running 3).led.wf = true := by decide

theorem witness_clear : (inData 0).life = .running ∧ (inData 0).led.wf = true ∧
    (inData 0).led.within (inData 0).ledCount.toNat = true ∧ (List.replicate 9 0).length = 3 * (inData 0).ledCount.toNat := by decide

/-- A command with writes to make, the last LED among them, and one with none left. -/
theorem witness_micro_steps : let op : FgOp := ⟨.setvs 2 1 2 3, rgbWrites 2 1 2 3, true⟩
    ({ running 3 with fgOp := some op } : State).fgOp = some op ∧ op.dirtyPending = true ∧ op.writes ≠ [] ∧
    (∀ w ∈ op.writes, w.led < (running 3).ledCount.toNat) ∧ op.writes[2]? = some ⟨2, .b, 3⟩ ∧
    (⟨.clear, [], true⟩ : FgOp).writes = [] := by decide

/-- A foreground step of a running block: a word issued, and a micro-step. -/
theorem witness_foreground : after (foregroundStep 0 (issuing 0x4000000000000000#64 (running 3))) (·.life) = some .running ∧
    after (foregroundStep 0 { running 3 with fgOp := some ⟨.clear, [], true⟩ }) (·.dirty) = some true := by decide +kernel

/-- `DIRTY` set by a final micro-step; cleared by `INIT`, at the end of RESET and in IDLE. -/
theorem witness_dirty : let enc (s : State) : State := { withEvent .first s with moves := [.encoder] }
    after (step { running 3 with fgOp := some ⟨.clear, [], true⟩, moves := [.foreground 0] }) (·.dirty) = some true ∧
    after (step { issuing 0x1000000000000003#64 fresh with allocs := [true], dirty := true }) (·.dirty) = some false ∧
    after (step (enc (inReset 2 10 true))) (·.dirty) = some false ∧ after (step (enc (inIdle true))) (·.dirty) = some false := by decide +kernel

/-- The four clauses of the RESET rows, at the boundary values of their guards. -/
theorem witness_reset_rows : (inReset 1 0 false).encState = .reset ∧ (inReset 1 0 false).zhw < 2 ∧
    (inReset 2 9 false).zhw = 2 ∧ (inReset 2 9 false).resetCount < (inReset 2 9 false).cfg.resetCycles ∧
    (inReset 2 10 true).cfg.resetCycles ≤ (inReset 2 10 true).resetCount ∧ (inReset 2 10 true).dirty = true ∧
    (inReset 2 10 false).dirty = false := by decide

theorem witness_idle : (inIdle true).encState = .idle ∧ (inIdle true).dirty = true ∧ (inIdle false).dirty = false ∧
    (inIdle true).cursor = 0 ∧ 0 < (inIdle true).ledCount.toNat := by decide

/-- A pass in its middle and at its last LED, and a cursor outside the store. -/
theorem witness_data : (inData 1).encState = .data ∧ (inData 1).cursor.toNat + 1 < (inData 1).ledCount.toNat ∧
    (inData 2).cursor.toNat + 1 = (inData 2).ledCount.toNat ∧ (inData 3).ledCount.toNat ≤ (inData 3).cursor.toNat := by decide

/-- An encoder step of either half answers a next state in each of the three states of the encoder. -/
theorem witness_event_steps : ([inReset 0 0 false, inIdle false, inData 0].map fun s =>
    ((next? (exec (Instr.ofEvent .first) s)).isSome, (next? (exec (Instr.ofEvent .second) s)).isSome)) =
      List.replicate 3 (true, true) := by decide +kernel

/-- Admitted parameters at the bounds of R6, and a DATA step with them. -/
theorem witness_table : params.admitted = true ∧ (⟨10, 1, 2, 3, 1, false⟩ : Params).admitted = true ∧
    (inData 0).cfg = params ∧ (inData 0).encState = .data ∧ (next? (exec (Instr.ofEvent .first) (inData 0))).isSome = true := by decide +kernel

/-- A slot end that is enabled with the deadline met, one with it missed, and one that waits. -/
theorem witness_slot_end : (running 1).life = .running ∧ (running 1).started = true ∧ (running 1).cfg.deadlineMet = true ∧
    (running 1).pending (running 1).curHalf.other = false ∧ (missing (running 1)).cfg.deadlineMet = false ∧
    (withEvent .second (running 1)).pending (running 1).curHalf.other = true ∧
    ({ running 1 with started := false } : State).started = false := by decide

/-- A step that adds a fault record. -/
theorem witness_faults : after (step { missing (withEvent .first (running 1)) with moves := [.stream] }) (·.faults) =
    some [⟨.overrun, .first, 0⟩] := by decide +kernel

/-- Steps of a running block: one of the encoder and one that is not. -/
theorem witness_sequencer : (running 1).life = .running ∧
    (next? (step { withEvent .first (running 1) with moves := [.encoder] })).isSome = true ∧
    (next? (step { running 1 with moves := [.stream] })).isSome = true := by decide +kernel

/-- A step from each state of the encoder: at the last LED, out of IDLE, and out of RESET. -/
theorem witness_cycle : let enc (s : State) : State := { withEvent .first s with moves := [.encoder] }
    after (step (enc (inData 2))) (·.encState) = some .reset ∧ after (step (enc (inIdle true))) (·.encState) = some .data ∧
    after (step (enc (inReset 2 10 false))) (·.encState) = some .idle := by decide +kernel

theorem endOfPass_inv : Inv endOfPass where
  uninit h := by cases h
  started _ := rfl
  encoder _ := ⟨by decide, by decide, by decide, fun _ => rfl, by decide, by decide, fun h => absurd rfl h⟩
  store _ := ⟨rfl, rfl, fun _ h => (by cases h), fun _ h => (by cases h)⟩

/-- A running block with its deadline met that meets the invariants, has an update waiting and all events serviced. -/
theorem witness_invariants : SafeInv endOfPass where
  inv := endOfPass_inv
  deadline _ _ := ⟨rfl, rfl, rfl, rfl, by decide, fun h => (by cases h), fun _ h => (by cases h), fun h => (by cases h),
    fun _ h => (by cases h)⟩

/-- Such a block takes steps: of the stream, and of the encoder once its event is pending. -/
theorem witness_invariant_steps : (next? (step { endOfPass with moves := [.stream] })).isSome = true ∧
    (next? (step { streamStep endOfPass with moves := [.encoder] })).isSome = true := by decide +kernel

/-- The premises of the statements about the wire and the latch period, and of a full cycle. -/
theorem witness_wire : endOfPass.life = .running ∧ endOfPass.cfg.deadlineMet = true ∧ endOfPass.encState = .reset ∧
    endOfPass.cursor = 0 ∧ endOfPass.resetCount = 0 ∧ endOfPass.zhw = 0 ∧ endOfPass.dirty = true ∧
    endOfPass.pending0 = false ∧ endOfPass.pending1 = false ∧ 1 ≤ endOfPass.encSteps ∧ 0 < endOfPass.ledCount.toNat := by decide

theorem witness_position : endOfPass.position = (.reset, 0, 0, 0) := rfl

/-- Both RESET visits: after a pass, and after `INIT`. -/
theorem witness_reset_visits : (inReset 0 0 true).encState = .reset ∧ (inReset 0 0 true).resetCount = 0 ∧
    (inReset 0 0 true).zhw = 0 ∧ (inReset 2 0 false).zhw = 2 := by decide

/-- The start of a pass, and a DATA step inside an update of its LED. -/
theorem witness_pass : (inData 0).encState = .data ∧ (inData 0).cursor = 0 ∧ 0 < (inData 0).ledCount.toNat ∧
    (inData 0).life = .running ∧ (inData 0).cursor.toNat < (inData 0).ledCount.toNat ∧ (inData 0).led.wf = true := by decide

/-- The block right after `INIT 1` with an update already made. -/
def updated : State := { running 1 with dirty := true }

/-- The premises of the statement about the first latch period. -/
theorem witness_first_latch : SafeInv updated where
  inv := {
    uninit := fun h => by cases h
    started := fun _ => rfl
    encoder := fun _ => ⟨by decide, by decide, by decide, fun _ => rfl, by decide, by decide, fun h => absurd rfl h⟩
    store := fun _ => ⟨rfl, rfl, fun _ h => (by cases h), fun _ h => (by cases h)⟩ }
  deadline _ _ := ⟨rfl, rfl, rfl, rfl, by decide, fun h => (by cases h), fun _ _ => ⟨by decide +kernel, by decide +kernel⟩,
    fun h => (by cases h), fun _ h => (by cases h)⟩

theorem witness_first_latch_fields : updated.life = .running ∧ updated.cfg.deadlineMet = true ∧ updated.encState = .reset ∧
    updated.zhw = 2 ∧ updated.resetCount = 0 ∧ updated.dirty = true ∧ updated.pending0 = false ∧
    updated.pending1 = false ∧ updated.trace = [zeroHalf] := by decide +kernel

/-- A running block in IDLE with nothing left to do but the final micro-step of a command built by hand that sets no
`DIRTY`, the event of half 1 pending, and its deadline missed. -/
def quiet : State := missing (withEvent .second { inIdle false with fgOp := some ⟨.clear, [], false⟩ })

/-- What every state of the run from `quiet` has. -/
structure Quiet (s : State) : Prop where
  life : s.life = .running
  idle : s.encState = .idle
  clean : s.dirty = false
  words : s.words = []
  command : ∀ op, s.fgOp = some op → op.writes = [] ∧ op.dirtyPending = false
  started : s.started = true
  missed : s.cfg.deadlineMet = false

theorem Quiet.takeMove {s : State} (hs : Quiet s) : Quiet s.takeMove := by
  obtain ⟨h1, h2, h3, h4, h5, h6, h7⟩ := hs
  exact ⟨by simpa, by simpa, by simpa, by simpa, by simpa using h5, by simpa, by simpa⟩

/-- Such a block takes a step and stays so. -/
theorem Quiet.step {s : State} (hs : Quiet s) : ∃ t, Machine.step s = .next t ∧ Quiet t := by
  have hq := hs.takeMove
  unfold Machine.step
  generalize s.takeMove = u at hq
  have hu := hq
  obtain ⟨h1, h2, h3, h4, h5, h6, h7⟩ := hq
  cases s.nextMove with
  | stream => exact ⟨_, rfl, by simpa, by simpa, by simpa, by simpa, by simpa using h5, by simpa, by simpa⟩
  | encoder =>
    simp only [agentStep, encoderAgentStep]
    split
    · rename_i h _
      refine ⟨(idleRow u.enterEncoder).leaveEncoder h, by simp [encoderStep, h2], ?_⟩
      exact ⟨by simpa, by simp [h3], by simp, by simpa, by simpa using h5, by simpa, by simpa⟩
    · exact ⟨u, rfl, hu⟩
  | foreground pick =>
    simp only [agentStep, foregroundStep]
    cases hf : u.fgOp with
    | none => simp only [h4]; exact ⟨u, rfl, hu⟩
    | some op =>
      obtain ⟨hw, hd⟩ := h5 op hf
      refine ⟨finalStep op u, by simp [microStep, hw], ?_⟩
      exact ⟨by simpa, by simpa, by simp [h3, hd], by simpa, by simp, by simpa, by simpa⟩

/-- The state after a step of the run. -/
def stepOn (s : State) : State := (next? (step s)).getD s

/-- The run from a state. -/
def runFrom (s : State) : Nat → State
  | 0 => s
  | n + 1 => stepOn (runFrom s n)

theorem Quiet.stepOn {s : State} (hs : Quiet s) : Machine.step s = .next (Tests.stepOn s) ∧ Quiet (Tests.stepOn s) := by
  obtain ⟨t, ht, hq⟩ := hs.step
  have e : Tests.stepOn s = t := by unfold Tests.stepOn; rw [ht]; rfl
  exact ⟨by rw [e, ht], by rw [e]; exact hq⟩

theorem Quiet.runFrom {s : State} (hs : Quiet s) (n : Nat) : Quiet (Tests.runFrom s n) := by
  induction n with
  | zero => exact hs
  | succ n ih => exact ih.stepOn.2

theorem Quiet.isRun {s : State} (hs : Quiet s) : IsRun (Tests.runFrom s) := fun n => (hs.runFrom n).stepOn.1

theorem quiet_quiet : Quiet quiet := ⟨rfl, rfl, rfl, rfl, fun _ h => (by cases h; exact ⟨rfl, rfl⟩), rfl, rfl⟩

/-- A run of a running block, in which a slot end stays enabled, an event is pending and a command is in progress. -/
theorem witness_run : IsRun (runFrom quiet) ∧ (∀ n, streamEnabled (runFrom quiet n) = true) ∧
    (runFrom quiet 0).life = .running ∧ (runFrom quiet 0).pending .second = true ∧ (runFrom quiet 0).fgOp ≠ none := by
  refine ⟨quiet_quiet.isRun, fun n => ?_, rfl, rfl, by decide⟩
  obtain ⟨h1, _, _, _, _, h6, h7⟩ := quiet_quiet.runFrom n
  simp [streamEnabled, h1, h6, h7]

/-- The same block with no command in progress. -/
def idling : State := { quiet with fgOp := none }

/-- A run of a running block whose first state meets the invariant. -/
theorem witness_run_inv : IsRun (runFrom idling) ∧ Inv (runFrom idling 0) ∧ (runFrom idling 0).life = .running := by
  refine ⟨Quiet.isRun ⟨rfl, rfl, rfl, rfl, fun _ h => (by cases h), rfl, rfl⟩, ?_, rfl⟩
  exact {
    uninit := fun h => by cases h
    started := fun _ => rfl
    encoder := fun _ => ⟨by decide, by decide, by decide, fun _ => rfl, by decide, by decide, fun _ => ⟨rfl, rfl⟩⟩
    store := fun _ => ⟨rfl, rfl, fun _ h => (by cases h), fun _ h => (by cases h)⟩ }

/-! ### The turns of R216 -/

/-- The event of half 0 is owed in round 1; the older event of half 1 goes first, and half 0 is serviced next. -/
theorem test_owed_event : let s : State := { withEvent .first (withEvent .second (running 1)) with rounds := 1, lastEvt := .first }
    s.nextMove = .encoder ∧ s.servicedHalf = some .second ∧
    after (step s) (fun t => (t.servicedHalf, t.nextMove)) = some (some .first, .encoder) := by decide +kernel

theorem test_owed_turns : [0, 1, 2, 3, 4].map turnOf = [.stream, .event .first, .event .second, .foreground, .stream] := by decide

end Sys2Proof.Tests
end

section
/-! PROOFS. What one step of the block can do, said once for the three agents, and what an encoder step does to the
halves of the buffer and to `DIRTY`. -/

namespace Sys2Proof.Machine

/-- `SameBlock s t`: `t` is `s` but for what the host port shows, the host's words and the choices used up. -/
inductive SameBlock (s : State) : State → Prop where
  | mk (status : Status) (refused : Bool) (words : List OpWord) (moves : List Move) (allocs : List Bool)
      (drawn rounds : Nat) :
    SameBlock s { s with status := status, refused := refused, words := words, moves := moves, allocs := allocs,
                         drawn := drawn, rounds := rounds }

theorem SameBlock.takeMove (s : State) : SameBlock s s.takeMove := by
  unfold State.takeMove
  split <;> exact ⟨_, _, _, _, _, _, _⟩

theorem SameBlock.takeAlloc_returnStatus (s : State) (ws : List OpWord) (st : Status) :
    SameBlock s (({ s with words := ws } : State).takeAlloc.returnStatus st) := by
  unfold State.takeAlloc
  split <;> exact ⟨_, _, _, _, _, _, _⟩

/-- What the step of a move can do to a state, its move used up (R5): nothing, where the agent has none enabled; a slot
ends (R212); the event of a half is serviced (R130); a command in progress writes a byte or finishes (R100 (2), (3)); or
a word is issued, which the host port answers with nothing but a status or a refusal, or which begins a command
(R100 (1)) or initialises the block (R190). -/
inductive StepEffect (s : State) (m : Move) : State → Prop where
  | waits (hno : (m = .stream ∧ streamEnabled s = false) ∨ (m = .encoder ∧ encoderTurn s = none) ∨
      (∃ pick, m = .foreground pick ∧ s.fgOp = none ∧ s.words = [])) : StepEffect s m s
  | endsSlot (hm : m = .stream) (he : streamEnabled s = true) : StepEffect s m (slotEnd s)
  | services {t : State} (h : Half) (hm : m = .encoder) (hl : s.life = .running) (hh : s.servicedHalf = some h)
      (ht : encoderStep h s = .next t) : StepEffect s m t
  | writesByte (pick : Nat) (op : FgOp) (k : Nat) (w : LedWrite) (hm : m = .foreground pick)
      (hop : s.fgOp = some op) (hw : op.writes[k]? = some w) (hlt : w.led < s.ledCount.toNat) :
    StepEffect s m
      { s.writeLed w.led w.channel w.value with fgOp := some { op with writes := op.writes.eraseIdx k } }
  | finishes (pick : Nat) (op : FgOp) (hm : m = .foreground pick) (hop : s.fgOp = some op) (hw : op.writes = []) :
    StepEffect s m (finalStep op s)
  | answers {t : State} (pick : Nat) (hm : m = .foreground pick) (hop : s.fgOp = none) (ht : SameBlock s t)
      (hr : s.refused = true → t.refused = true) : StepEffect s m t
  | begins (pick : Nat) (ws : List OpWord) (op : Instr) (writes : List LedWrite) (hm : m = .foreground pick)
      (hop : s.fgOp = none) (hl : s.life = .running) (hw : ∀ x ∈ writes, x.led < s.ledCount.toNat) :
    StepEffect s m (beginCommand op writes { s with words := ws })
  | initialises (pick : Nat) (ws : List OpWord) (count : BitVec 32) (hm : m = .foreground pick) (hop : s.fgOp = none)
      (hl : s.life = .uninit) (hn : count ≠ 0) (hcap : count.toNat ≤ s.cfg.ledCapacity)
      (hdraw : s.nextAlloc = true) :
    StepEffect s m (initialise count ({ s with words := ws } : State).takeAlloc)

theorem streamStep_effect (s : State) : StepEffect s .stream (streamStep s) := by
  unfold streamStep
  split
  · exact .endsSlot rfl ‹_›
  · exact .waits (.inl ⟨rfl, Bool.eq_false_iff.mpr ‹_›⟩)

theorem encoderAgentStep_effect {s t : State} (hs : encoderAgentStep s = .next t) : StepEffect s .encoder t := by
  rcases encoderAgentStep_cases hs with ⟨hno, rfl⟩ | ⟨h, hl, hh, ht⟩
  · exact .waits (.inr (.inl ⟨rfl, hno⟩))
  · exact .services h rfl hl hh ht

/-- The issue of the word taken from the host's words `ws`. -/
theorem issue_effect {s t : State} {w : OpWord} (pick : Nat) (ws : List OpWord) (hop : s.fgOp = none)
    (hs : issue w { s with words := ws } = .next t) : StepEffect s (.foreground pick) t := by
  rcases issue_cases hs with ⟨_, rfl⟩ | ⟨_, _, he, hx⟩
  · exact .answers pick rfl hop ⟨_, _, _, _, _, _, _⟩ fun _ => rfl
  · rcases exec_command_cases he hx with ⟨_, rfl⟩ | ⟨_, rfl⟩ | ⟨hl, op, writes, hw, rfl⟩ | ⟨_, rfl | rfl⟩ |
      ⟨hl, count, hn, hcap, hdraw, rfl⟩
    · exact .answers pick rfl hop ⟨_, _, _, _, _, _, _⟩ fun _ => rfl
    · exact .answers pick rfl hop ⟨_, _, _, _, _, _, _⟩ id
    · exact .begins pick ws op writes rfl hop hl hw
    · exact .answers pick rfl hop ⟨_, _, _, _, _, _, _⟩ id
    · exact .answers pick rfl hop (.takeAlloc_returnStatus s ws _) fun hr => by simpa using hr
    · exact .initialises pick ws count rfl hop hl hn hcap hdraw

theorem foregroundStep_effect {s t : State} {pick : Nat} (hs : foregroundStep pick s = .next t) :
    StepEffect s (.foreground pick) t := by
  rcases foregroundStep_cases hs with ⟨op, hop, hm⟩ | ⟨hop, hws, rfl⟩ | ⟨w, ws, hop, _, hi⟩
  · rcases microStep_cases hm with ⟨hw, rfl⟩ | ⟨k, w, hw, hlt, rfl⟩
    · exact .finishes pick op rfl hop hw
    · exact .writesByte pick op k w rfl hop hw hlt
  · exact .waits (.inr (.inr ⟨pick, rfl, hop, hws⟩))
  · exact issue_effect pick ws hop hi

/-- Everything a step of the block can do (R5, R67). -/
theorem step_effect {s t : State} (hs : step s = .next t) : StepEffect s.takeMove s.nextMove t := by
  rcases step_cases hs with ⟨hm, rfl⟩ | ⟨hm, h⟩ | ⟨pick, hm, h⟩ <;> rw [hm]
  · exact streamStep_effect _
  · exact encoderAgentStep_effect h
  · exact foregroundStep_effect h

/-- The stream ends slots of a running block only (R245). -/
theorem running_of_streamEnabled {s : State} (h : streamEnabled s = true) : s.life = .running := by
  simp only [streamEnabled, Bool.and_eq_true, decide_eq_true_eq] at h
  exact h.1.1

/-- The order in which R130 services the events is not the schedule's. -/
@[simp] theorem State.servicedHalf_takeMove (s : State) : s.takeMove.servicedHalf = s.servicedHalf := by
  simp [State.servicedHalf]

/-! ### The encoder step -/

/-- The RESET rows write no half but the event's (R131). -/
@[simp] theorem resetRow_half_other (h : Half) (s : State) : (resetRow h s).half h.other = s.half h.other := by
  rcases resetRow_cases h s with ⟨_, e⟩ | ⟨_, _, e⟩ | ⟨_, _, e⟩ <;> rw [e]
  · exact halfOf_setHalf_other _ _ _
  · rfl
  · exact State.half_congr (by simp [endResetRow]) _

/-- The DATA rows write no half but the event's (R135). -/
@[simp] theorem dataRow_half_other (h : Half) (s : State) : (dataRow h s).half h.other = s.half h.other := by
  rcases dataRow_cases h s with ⟨_, e⟩ | ⟨_, e⟩ <;> rw [e] <;> exact halfOf_setHalf_other _ _ _

/-- An encoder step writes no half but the one it services (R31, R130). -/
theorem encoderStep_half_other {h : Half} {s t : State} (hs : encoderStep h s = .next t) :
    t.half h.other = s.half h.other := by
  rcases encoderStep_cases hs with ⟨_, rfl⟩ | ⟨_, rfl⟩ | ⟨_, _, rfl⟩ <;>
    rw [State.half_congr (State.leaveEncoder_buf _ _)]
  · exact resetRow_half_other _ _
  · exact State.half_congr (by simp) _
  · exact dataRow_half_other _ _

/-- An encoder step leaves `DIRTY` as it was, or clears it and starts a pass, in IDLE or in the end row of RESET
(R133, R134). -/
theorem encoderStep_dirty_cases {h : Half} {s t : State} (hs : encoderStep h s = .next t) :
    t.dirty = s.dirty ∨
      (s.dirty = true ∧ t.dirty = false ∧ t.encState = .data ∧
        (s.encState = .idle ∨ (s.encState = .reset ∧ s.zhw = 2 ∧ s.cfg.resetCycles ≤ s.resetCount))) := by
  rcases encoderStep_cases hs with ⟨hst, rfl⟩ | ⟨hst, rfl⟩ | ⟨_, _, rfl⟩
  · rcases resetRow_cases h s.enterEncoder with ⟨_, e⟩ | ⟨_, _, e⟩ | ⟨hz, hc, e⟩ <;> rw [e]
    · exact .inl (by simp [zeroFillRow])
    · exact .inl (by simp [countRow])
    · cases hd : s.dirty with
      | false => exact .inl (by simp [endResetRow])
      | true => exact .inr ⟨rfl, by simp [endResetRow], by simp [endResetRow, hd], .inr ⟨hst, hz, hc⟩⟩
  · cases hd : s.dirty with
    | false => exact .inl (by simp)
    | true => exact .inr ⟨rfl, by simp, by simp [hd], .inl hst⟩
  · exact .inl (by simp)

end Sys2Proof.Machine
end

section
/-! PROOFS. The invariant of the block: where it holds, what it depends on, and that every row of the encoder and every
step of the store keeps it (O34, O35). -/

namespace Sys2Proof.Machine

/-! ### What the invariants depend on -/

/-- The encoder's invariants depend on the sequencer position, `N` and the parameters alone. -/
theorem EncoderInv.congr {s t : State} (h : EncoderInv s) (hp : t.position = s.position)
    (hn : t.ledCount = s.ledCount) (hc : t.cfg = s.cfg) : EncoderInv t := by
  simp only [State.position, Prod.mk.injEq] at hp
  obtain ⟨he, hcur, hrc, hz⟩ := hp
  obtain ⟨h1, h2, h3, h4, h5, h6, h7⟩ := h
  constructor <;> simpa only [he, hcur, hrc, hz, hn, hc]

/-- The store's invariants depend on the store, `N` and the command in progress alone. -/
theorem StoreInv.congr {s t : State} (h : StoreInv s) (hl : t.led = s.led) (hn : t.ledCount = s.ledCount)
    (hf : t.fgOp = s.fgOp) : StoreInv t := by
  obtain ⟨h1, h2, h3, h4⟩ := h
  constructor <;> simpa only [hl, hn, hf]

/-- Where no command is in progress the store's invariants are those of the store. -/
theorem StoreInv.of_no_command {s : State} (hf : s.fgOp = none) (hwf : s.led.wf = true)
    (hin : s.led.within s.ledCount.toNat = true) : StoreInv s :=
  ⟨hwf, hin, fun _ h => by simp [hf] at h, fun _ h => by simp [hf] at h⟩

/-- The invariant of a running block. -/
theorem Inv.of_running {s : State} (hl : s.life = .running) (hs : s.started = true) (he : EncoderInv s)
    (hst : StoreInv s) : Inv s :=
  ⟨fun h => by simp [hl] at h, fun _ => hs, fun _ => he, fun _ => hst⟩

/-- The invariant of a block without a successful `INIT`. -/
theorem Inv.of_uninit {s : State} (hl : s.life = .uninit) (hu : UninitInv s) : Inv s :=
  ⟨fun _ => hu, fun h => by simp [hl] at h, fun h => by simp [hl] at h, fun h => by simp [hl] at h⟩

/-- A command is in progress in a running block only. -/
theorem Inv.running_of_command {s : State} {op : FgOp} (h : Inv s) (hop : s.fgOp = some op) : s.life = .running := by
  cases hl : s.life with
  | running => rfl
  | uninit => simp [(h.uninit hl).no_command] at hop

/-- The invariant says nothing of the host port and of the choices. -/
theorem SameBlock.inv {s t : State} (e : SameBlock s t) (h : Inv s) : Inv t := by
  cases e
  exact ⟨fun hl => { h.uninit hl with }, h.started, fun hl => { h.encoder hl with }, fun hl => { h.store hl with }⟩

/-! ### The encoder's rows keep the encoder's invariants -/

/-- A zero-fill step comes before the first count (R162). -/
theorem EncoderInv.zeroFillRow {s : State} (h : Half) (hi : EncoderInv s) (he : s.encState = .reset)
    (hz : s.zhw < 2) : EncoderInv (zeroFillRow h s) where
  count_pos := hi.count_pos
  count_le_capacity := hi.count_le_capacity
  cursor_lt_count := hi.cursor_lt_count
  cursor_zero := hi.cursor_zero
  resetCount_le := hi.resetCount_le
  counting hc := absurd (hi.counting hc) (by omega)
  reset_done hne := absurd he hne

theorem EncoderInv.countRow {s : State} (hi : EncoderInv s) (he : s.encState = .reset) (hz : s.zhw = 2)
    (hc : s.resetCount < s.cfg.resetCycles) : EncoderInv (countRow s) where
  count_pos := hi.count_pos
  count_le_capacity := hi.count_le_capacity
  cursor_lt_count := hi.cursor_lt_count
  cursor_zero := hi.cursor_zero
  resetCount_le := hc
  counting _ := hz
  reset_done hne := absurd he hne

theorem EncoderInv.endResetRow {s : State} (hi : EncoderInv s) (hz : s.zhw = 2)
    (hc : s.cfg.resetCycles ≤ s.resetCount) : EncoderInv (endResetRow s) where
  count_pos := by simpa [Machine.endResetRow] using hi.count_pos
  count_le_capacity := by simpa [Machine.endResetRow] using hi.count_le_capacity
  cursor_lt_count := by simpa [Machine.endResetRow] using hi.count_pos
  cursor_zero _ := by simp [Machine.endResetRow]
  resetCount_le := by simpa [Machine.endResetRow] using hi.resetCount_le
  counting _ := by simpa [Machine.endResetRow] using hz
  reset_done _ := by simpa [Machine.endResetRow] using ⟨hz, Nat.le_antisymm hi.resetCount_le hc⟩

theorem EncoderInv.resetRow {s : State} (h : Half) (hi : EncoderInv s) (he : s.encState = .reset) :
    EncoderInv (resetRow h s) := by
  rcases resetRow_cases h s with ⟨hz, e⟩ | ⟨hz, hc, e⟩ | ⟨hz, hc, e⟩ <;> rw [e]
  · exact hi.zeroFillRow h he hz
  · exact hi.countRow he hz hc
  · exact hi.endResetRow hz hc

/-- IDLE is left for DATA with the cursor at LED 0 and the counters of RESET as they were (R160, R162). -/
theorem EncoderInv.idleRow {s : State} (hi : EncoderInv s) (he : s.encState = .idle) : EncoderInv (idleRow s) where
  count_pos := by simpa using hi.count_pos
  count_le_capacity := by simpa using hi.count_le_capacity
  cursor_lt_count := by simpa using hi.cursor_lt_count
  cursor_zero _ := by simpa using hi.cursor_zero (by simp [he])
  resetCount_le := by simpa using hi.resetCount_le
  counting := by simpa using hi.counting
  reset_done _ := by simpa using hi.reset_done (by simp [he])

/-- The end of a pass is the start of RESET, whatever was encoded (R136). -/
theorem EncoderInv.endPassRow {s : State} (hi : EncoderInv s) : EncoderInv (endPassRow s) where
  count_pos := hi.count_pos
  count_le_capacity := hi.count_le_capacity
  cursor_lt_count := hi.count_pos
  cursor_zero _ := rfl
  resetCount_le := Nat.zero_le _
  counting hc := absurd hc (Nat.lt_irrefl 0)
  reset_done hne := absurd rfl hne

/-- The next LED is one of the store where this one is not the last (R137, R160). -/
theorem EncoderInv.nextLedRow {s : State} (hi : EncoderInv s) (he : s.encState = .data)
    (hc : s.cursor.toNat + 1 ≠ s.ledCount.toNat) : EncoderInv (nextLedRow s) where
  count_pos := hi.count_pos
  count_le_capacity := hi.count_le_capacity
  cursor_lt_count := by
    have hlt := hi.cursor_lt_count
    simp only [Machine.nextLedRow, BitVec.toNat_add]
    bv_omega
  cursor_zero hne := absurd he hne
  resetCount_le := hi.resetCount_le
  counting := hi.counting
  reset_done := hi.reset_done

theorem EncoderInv.dataRow {s : State} (h : Half) (hi : EncoderInv s) (he : s.encState = .data) :
    EncoderInv (dataRow h s) := by
  have henc : EncoderInv (encodeRow h s) := hi.congr rfl rfl rfl
  rcases dataRow_cases h s with ⟨_, e⟩ | ⟨hc, e⟩ <;> rw [e]
  · exact henc.endPassRow
  · exact henc.nextLedRow he hc

/-- An encoder step keeps the encoder's invariants (R160, R161, R162). -/
theorem EncoderInv.encoderStep {h : Half} {s t : State} (hi : EncoderInv s) (hs : encoderStep h s = .next t) :
    EncoderInv t := by
  have henter : EncoderInv s.enterEncoder := hi.congr rfl rfl rfl
  have leave : ∀ {u : State}, EncoderInv u → EncoderInv (u.leaveEncoder h) := fun hu =>
    hu.congr (by simp [State.position]) (by simp) (by simp)
  rcases encoderStep_cases hs with ⟨he, rfl⟩ | ⟨he, rfl⟩ | ⟨he, _, rfl⟩
  · exact leave (henter.resetRow h he)
  · exact leave (henter.idleRow he)
  · exact leave (henter.dataRow h he)

/-- An encoder step touches neither the store nor the command in progress (R114). -/
theorem StoreInv.encoderStep {h : Half} {s t : State} (hi : StoreInv s) (hs : encoderStep h s = .next t) :
    StoreInv t := by
  rcases encoderStep_cases hs with ⟨_, rfl⟩ | ⟨_, rfl⟩ | ⟨_, _, rfl⟩ <;> exact hi.congr (by simp) (by simp) (by simp)

theorem encoderStep_life_started {h : Half} {s t : State} (hs : encoderStep h s = .next t) :
    t.life = s.life ∧ t.started = s.started := by
  rcases encoderStep_cases hs with ⟨_, rfl⟩ | ⟨_, rfl⟩ | ⟨_, _, rfl⟩ <;> simp

/-! ### The commands keep the store's invariants -/

/-- A byte write to a cell of the store keeps the store's form, and the writes that remain are those there were. -/
theorem StoreInv.writesByte {s : State} {op : FgOp} {k : Nat} {w : LedWrite} (hi : StoreInv s)
    (hop : s.fgOp = some op) (hlt : w.led < s.ledCount.toNat) :
    StoreInv { s.writeLed w.led w.channel w.value with fgOp := some { op with writes := op.writes.eraseIdx k } } where
  led_wf := Memory.wf_write _ _ hi.led_wf
  led_within := Memory.within_write _ (ledAddr_lt.mpr hlt) hi.led_within
  writes_within := by
    rintro _ ⟨⟩ x hx
    exact hi.writes_within op hop x (List.mem_of_mem_eraseIdx hx)
  dirty_to_come := by
    rintro _ ⟨⟩
    exact hi.dirty_to_come op hop

theorem StoreInv.beginCommand {s : State} {op : Instr} {writes : List LedWrite} (hi : StoreInv s)
    (hw : ∀ x ∈ writes, x.led < s.ledCount.toNat) : StoreInv (beginCommand op writes s) where
  led_wf := hi.led_wf
  led_within := hi.led_within
  writes_within := by
    rintro _ ⟨⟩ x hx
    exact hw x hx
  dirty_to_come := by
    rintro _ ⟨⟩
    rfl

/-! ### INIT establishes the invariant -/

theorem EncoderInv.initialise {s : State} {count : BitVec 32} (hn : count ≠ 0)
    (hcap : count.toNat ≤ s.cfg.ledCapacity) : EncoderInv (initialise count s) := by
  have hpos : 0 < count.toNat := by
    have : count.toNat ≠ 0 := fun h => hn (BitVec.eq_of_toNat_eq h)
    omega
  exact ⟨hpos, hcap, hpos, fun _ => rfl, Nat.zero_le _, fun _ => rfl, fun hne => absurd rfl hne⟩

/-- A successful `INIT` leaves a block that meets the invariant (R190), where no command is in progress. -/
theorem Inv.initialise {s : State} {count : BitVec 32} (hop : s.fgOp = none) (hn : count ≠ 0)
    (hcap : count.toNat ≤ s.cfg.ledCapacity) : Inv (initialise count s) :=
  .of_running rfl rfl (.initialise hn hcap) (.of_no_command hop rfl rfl)

/-! ### Every step keeps the invariant -/

theorem Inv.stepEffect {s t : State} {m : Move} (hi : Inv s) (e : StepEffect s m t) : Inv t := by
  cases e with
  | waits => exact hi
  | endsSlot _ he =>
    have hl := running_of_streamEnabled he
    exact .of_running (by simpa) (by simpa using hi.started hl)
      ((hi.encoder hl).congr (by simp [State.position]) (by simp) (by simp))
      ((hi.store hl).congr (by simp) (by simp) (by simp))
  | services h _ hl _ ht =>
    obtain ⟨hl', hs'⟩ := encoderStep_life_started ht
    exact .of_running (hl'.trans hl) (hs'.trans (hi.started hl)) ((hi.encoder hl).encoderStep ht)
      ((hi.store hl).encoderStep ht)
  | writesByte _ op k w _ hop _ hlt =>
    have hl := hi.running_of_command hop
    exact .of_running hl (hi.started hl) ((hi.encoder hl).congr rfl rfl rfl) ((hi.store hl).writesByte hop hlt)
  | finishes _ op _ hop =>
    have hl := hi.running_of_command hop
    have hst := hi.store hl
    exact .of_running hl (hi.started hl) ((hi.encoder hl).congr rfl rfl rfl)
      (.of_no_command rfl hst.led_wf hst.led_within)
  | answers _ _ _ ht => exact ht.inv hi
  | begins _ ws op writes _ _ hl hw =>
    have hst : StoreInv { s with words := ws } := (hi.store hl).congr rfl rfl rfl
    exact .of_running hl (hi.started hl) ((hi.encoder hl).congr rfl rfl rfl) (hst.beginCommand hw)
  | initialises _ ws count _ hop _ hn hcap => exact .initialise (by simpa) hn (by simpa)

end Sys2Proof.Machine

open Sys2Proof Sys2Proof.Machine

/-- Settles O35: every step of every agent keeps the invariant, case by case of what a step can do. -/
theorem stepKeepsTheInvariant : Obligations.StepKeepsTheInvariant := fun s _ hi hs =>
  ((SameBlock.takeMove s).inv hi).stepEffect (step_effect hs)

end

section
/-! PROOFS. The statements about the reset state, `DIRTY`, the faults and the sequencer, each a case analysis of what a
step can do (O34, O19, O30, O31). -/

namespace Sys2Proof.Machine

/-! ### Block reset -/

theorem halfOf_replicate_zero (h : Half) : halfOf (Vector.replicate 48 0) h = zeroHalf :=
  Vector.ext fun k hk => by simp [halfOf_getElem _ _ _ hk]

theorem UninitInv.reset : UninitInv State.reset :=
  ⟨rfl, rfl, rfl, rfl, rfl, ⟨halfOf_replicate_zero .first, halfOf_replicate_zero .second⟩, rfl, rfl, rfl, rfl⟩

/-! ### The set of faults -/

/-- From `s` to `t` no fault record is lost, and none is held twice that was held once (R242). -/
structure FaultsGrow (s t : State) : Prop where
  kept : ∀ r ∈ s.faults, r ∈ t.faults
  nodup : s.faults.Nodup → t.faults.Nodup

theorem FaultsGrow.of_eq {s t : State} (h : t.faults = s.faults) : FaultsGrow s t :=
  ⟨fun _ hr => h ▸ hr, fun hn => h ▸ hn⟩

theorem FaultsGrow.trans {s t u : State} (h : FaultsGrow s t) (h' : FaultsGrow t u) : FaultsGrow s u :=
  ⟨fun r hr => h'.kept r (h.kept r hr), fun hn => h'.nodup (h.nodup hn)⟩

theorem FaultsGrow.raise (s : State) (f : StreamFault) (h : Half) (slot : Nat) : FaultsGrow s (s.raise f h slot) where
  kept r hr := by
    rw [State.raise_faults, State.mem_raise_faults]
    exact .inl hr
  nodup hn := by
    rw [State.raise_faults]
    split
    · exact hn
    · rw [← List.concat_eq_append]
      exact hn.concat ‹_›

theorem FaultsGrow.checkOverrun (s : State) : FaultsGrow s (checkOverrun s) := by
  unfold Machine.checkOverrun
  split
  · exact .raise ..
  · exact .of_eq rfl

theorem FaultsGrow.checkUnderrun (s : State) : FaultsGrow s (checkUnderrun s) := by
  unfold Machine.checkUnderrun
  split
  · exact .raise ..
  · exact .of_eq rfl

/-- The slot end records its two faults, one after the other (R212, R241). -/
theorem FaultsGrow.slotEnd (s : State) : FaultsGrow s (slotEnd s) := by
  have hraise : FaultsGrow (Machine.checkOverrun s) ((Machine.checkOverrun s).raiseEvent s.curHalf) :=
    .of_eq (State.raiseEvent_faults _ _)
  exact (FaultsGrow.checkOverrun s).trans (hraise.trans ((FaultsGrow.checkUnderrun _).trans (.of_eq rfl)))

theorem encoderStep_faults_refused {h : Half} {s t : State} (hs : encoderStep h s = .next t) :
    t.faults = s.faults ∧ t.refused = s.refused := by
  rcases encoderStep_cases hs with ⟨_, rfl⟩ | ⟨_, rfl⟩ | ⟨_, _, rfl⟩ <;> simp

/-- Only a slot end touches the faults (R241). -/
theorem StepEffect.endsSlot_or_faults_eq {s t : State} {m : Move} (e : StepEffect s m t) :
    (m = .stream ∧ t = slotEnd s) ∨ t.faults = s.faults := by
  cases e with
  | endsSlot hm => exact .inl ⟨hm, rfl⟩
  | services h _ _ _ ht => exact .inr (encoderStep_faults_refused ht).1
  | answers _ _ _ ht => cases ht; exact .inr rfl
  | waits => exact .inr rfl
  | writesByte => exact .inr rfl
  | finishes => exact .inr rfl
  | begins => exact .inr rfl
  | initialises => exact .inr (by simp)

theorem StepEffect.faultsGrow {s t : State} {m : Move} (e : StepEffect s m t) : FaultsGrow s t := by
  rcases e.endsSlot_or_faults_eq with ⟨_, rfl⟩ | h
  · exact .slotEnd s
  · exact .of_eq h

theorem StepEffect.refused_kept {s t : State} {m : Move} (e : StepEffect s m t) (hr : s.refused = true) :
    t.refused = true := by
  cases e with
  | waits => exact hr
  | endsSlot => simpa
  | services h _ _ _ ht => exact (encoderStep_faults_refused ht).2.trans hr
  | writesByte => exact hr
  | finishes => exact hr
  | answers _ _ _ _ hkept => exact hkept hr
  | begins => exact hr
  | initialises => simpa

/-! ### `DIRTY` -/

/-- `DIRTY` is set by the final micro-step of a command only (R29). -/
theorem StepEffect.finishes_of_dirty_set {s t : State} {m : Move} (e : StepEffect s m t) (hs : s.dirty = false)
    (ht : t.dirty = true) :
    ∃ pick op, m = .foreground pick ∧ s.fgOp = some op ∧ op.writes = [] ∧ t = finalStep op s := by
  cases e with
  | finishes pick op hm hop hw => exact ⟨pick, op, hm, hop, hw, rfl⟩
  | waits => simp [hs] at ht
  | endsSlot => simp [hs] at ht
  | services h _ _ _ hstep =>
    rcases encoderStep_dirty_cases hstep with hd | ⟨hd, _⟩
    · simp [hd, hs] at ht
    · simp [hs] at hd
  | writesByte => simp [hs] at ht
  | answers _ _ _ hsame => cases hsame; simp [hs] at ht
  | begins => simp [hs] at ht
  | initialises => simp at ht

/-- `DIRTY` is cleared by a successful `INIT` and by the encoder step that starts a pass only (R29, R133, R134). -/
theorem StepEffect.init_or_pass_of_dirty_cleared {s t : State} {m : Move} (e : StepEffect s m t)
    (hs : s.dirty = true) (ht : t.dirty = false) :
    (s.life = .uninit ∧ t.life = .running) ∨
      (m = .encoder ∧ t.encState = .data ∧
        (s.encState = .idle ∨ (s.encState = .reset ∧ s.zhw = 2 ∧ s.cfg.resetCycles ≤ s.resetCount))) := by
  cases e with
  | initialises _ _ _ _ _ hl => exact .inl ⟨hl, rfl⟩
  | services h hm _ _ hstep =>
    rcases encoderStep_dirty_cases hstep with hd | ⟨_, _, hdata, hstart⟩
    · simp [hd, hs] at ht
    · exact .inr ⟨hm, hdata, hstart⟩
  | waits => simp [hs] at ht
  | endsSlot => simp [hs] at ht
  | writesByte => simp [hs] at ht
  | finishes => simp [hs] at ht
  | answers _ _ _ hsame => cases hsame; simp [hs] at ht
  | begins => simp [hs] at ht

/-! ### The sequencer -/

/-- In a running block every step but the encoder's leaves the sequencer, the buffer and `WLOG` as they were. -/
theorem StepEffect.sequencer_eq {s t : State} {m : Move} (e : StepEffect s m t) (hl : s.life = .running)
    (hm : m ≠ .encoder) : t.position = s.position ∧ t.buf = s.buf ∧ t.wlog = s.wlog := by
  cases e with
  | waits => exact ⟨rfl, rfl, rfl⟩
  | endsSlot => simp [State.position]
  | services h hm' => exact absurd hm' hm
  | writesByte => exact ⟨rfl, rfl, rfl⟩
  | finishes => exact ⟨rfl, rfl, rfl⟩
  | answers _ _ _ hsame => cases hsame; exact ⟨rfl, rfl, rfl⟩
  | begins => exact ⟨rfl, rfl, rfl⟩
  | initialises _ _ _ _ _ hl' => simp [hl] at hl'

/-- A step of the encoder services the half R130 names and writes no other, or does nothing. -/
theorem encoderAgentStep_half_other {s t : State} (hs : encoderAgentStep s = .next t) :
    (∃ h, s.servicedHalf = some h ∧ t.half h.other = s.half h.other) ∨ t = s := by
  rcases encoderAgentStep_cases hs with ⟨_, e⟩ | ⟨h, _, hh, ht⟩
  · exact .inr e
  · exact .inl ⟨h, hh, encoderStep_half_other ht⟩

end Sys2Proof.Machine

open Sys2Proof Sys2Proof.Machine

/-- Settles O34: the block is uninitialised after reset, with nothing started and the buffer zero. -/
theorem resetMeetsTheInvariants : Obligations.ResetMeetsTheInvariants :=
  ⟨.of_uninit rfl .reset, fun h => nomatch h⟩

/-- Settles O19, by what a step can do to `DIRTY`. -/
theorem dirtyIsSetAndClearedOnlyByItsRules : Obligations.DirtyIsSetAndClearedOnlyByItsRules := by
  intro s s' hs
  have e := step_effect hs
  refine ⟨fun hd hd' => ?_, fun hd hd' => ?_⟩
  · obtain ⟨pick, op, hm, hop, hw, rfl⟩ := e.finishes_of_dirty_set (by simpa) hd'
    exact ⟨pick, op, hm, by simpa using hop, hw, rfl, rfl⟩
  · simpa using e.init_or_pass_of_dirty_cleared (by simpa) hd'

/-- Settles O30: the stream alone records faults, and it adds to the set without repeats. -/
theorem faultsAndRefusalsAreSticky : Obligations.FaultsAndRefusalsAreSticky := by
  refine ⟨rfl, rfl, fun s s' hs => ?_⟩
  have e := step_effect hs
  obtain ⟨hkept, hnodup⟩ := e.faultsGrow
  refine ⟨by simpa using hkept, fun hr => e.refused_kept (by simpa), by simpa using hnodup, fun hne => ?_⟩
  exact (e.endsSlot_or_faults_eq.resolve_right (by simpa using hne)).1

/-- Settles O31, by what a step can do to the sequencer and to the halves of the buffer. -/
theorem onlyTheEncoderMovesTheSequencer : Obligations.OnlyTheEncoderMovesTheSequencer := by
  intro s s' hl hs
  refine ⟨fun hm => ?_, fun hm => ?_⟩
  · simpa [State.position] using (step_effect hs).sequencer_eq (by simpa) hm
  · rw [step, hm] at hs
    simpa [State.half] using encoderAgentStep_half_other hs

end

section
/-! PROOFS. The words of the operations: a word is its fields side by side, decoding and encoding are inverse to each
other, and the opcode table and the trace lines say the same (R82 to R90). -/

namespace Sys2Proof

/-! ### A word is its fields side by side -/

theorem append_eq_append_iff {v w : Nat} {a a' : BitVec v} {b b' : BitVec w} :
    a ++ b = a' ++ b' ↔ a = a' ∧ b = b' := by
  refine ⟨fun h => ⟨?_, ?_⟩, fun ⟨ha, hb⟩ => by rw [ha, hb]⟩
  · simpa [BitVec.extractLsb'_append_eq_left] using congrArg (BitVec.extractLsb' w v) h
  · simpa [BitVec.extractLsb'_append_eq_right] using congrArg (BitVec.extractLsb' 0 w) h

theorem cntFields_append (w : OpWord) : opField w ++ mbzCnt w ++ lowField w = w := by
  rw [opField, mbzCnt, lowField]
  iterate 2 rw [BitVec.extractLsb'_append_extractLsb'_eq_extractLsb' (by rfl)]
  exact BitVec.extractLsb'_eq_self

theorem svFields_append (w : OpWord) :
    opField w ++ mbzSvHigh w ++ chField w ++ mbzSvLow w ++ bField w ++ lowField w = w := by
  rw [opField, mbzSvHigh, chField, mbzSvLow, bField, lowField]
  iterate 5 rw [BitVec.extractLsb'_append_extractLsb'_eq_extractLsb' (by rfl)]
  exact BitVec.extractLsb'_eq_self

theorem svsFields_append (w : OpWord) :
    opField w ++ mbzSvs w ++ rField w ++ gField w ++ bField w ++ lowField w = w := by
  rw [opField, mbzSvs, rField, gField, bField, lowField]
  iterate 5 rw [BitVec.extractLsb'_append_extractLsb'_eq_extractLsb' (by rfl)]
  exact BitVec.extractLsb'_eq_self

theorem zFields_append (w : OpWord) : opField w ++ mbzZ w = w := by
  rw [opField, mbzZ, BitVec.extractLsb'_append_extractLsb'_eq_extractLsb' (by rfl)]
  exact BitVec.extractLsb'_eq_self

/-- In format `F_CNT` a word and its fields determine each other (R82). -/
theorem eq_cntWord_iff {w : OpWord} {op : BitVec 4} {z : BitVec 28} {low : BitVec 32} :
    w = op ++ z ++ low ↔ opField w = op ∧ mbzCnt w = z ∧ lowField w = low := by
  nth_rewrite 1 [← cntFields_append w]
  exact append_eq_append_iff.trans (by simp only [append_eq_append_iff, and_assoc])

/-- In format `F_SV` a word and its fields determine each other (R82). -/
theorem eq_svWord_iff {w : OpWord} {op : BitVec 4} {zh ch : BitVec 2} {zl : BitVec 16} {val : Byte} {low : BitVec 32} :
    w = op ++ zh ++ ch ++ zl ++ val ++ low ↔
      opField w = op ∧ mbzSvHigh w = zh ∧ chField w = ch ∧ mbzSvLow w = zl ∧ bField w = val ∧ lowField w = low := by
  nth_rewrite 1 [← svFields_append w]
  exact append_eq_append_iff.trans (by simp only [append_eq_append_iff, and_assoc])

/-- In format `F_SVS` a word and its fields determine each other (R82). -/
theorem eq_svsWord_iff {w : OpWord} {op z : BitVec 4} {r g b : Byte} {low : BitVec 32} :
    w = op ++ z ++ r ++ g ++ b ++ low ↔
      opField w = op ∧ mbzSvs w = z ∧ rField w = r ∧ gField w = g ∧ bField w = b ∧ lowField w = low := by
  nth_rewrite 1 [← svsFields_append w]
  exact append_eq_append_iff.trans (by simp only [append_eq_append_iff, and_assoc])

/-- In format `F_Z` a word and its fields determine each other (R82). -/
theorem eq_zWord_iff {w : OpWord} {op : BitVec 4} {z : BitVec 60} : w = op ++ z ↔ opField w = op ∧ mbzZ w = z := by
  nth_rewrite 1 [← zFields_append w]
  exact append_eq_append_iff

/-! ### The fields of the word of an operation -/

@[simp] theorem fields_encode_init (count : BitVec 32) :
    opField (encode (.init count)) = 0x1#4 ∧ mbzCnt (encode (.init count)) = 0#28 ∧
      lowField (encode (.init count)) = count :=
  eq_cntWord_iff.mp rfl

@[simp] theorem fields_encode_setv (idx : BitVec 32) (ch : BitVec 2) (val : Byte) :
    opField (encode (.setv idx ch val)) = 0x2#4 ∧ mbzSvHigh (encode (.setv idx ch val)) = 0#2 ∧
      chField (encode (.setv idx ch val)) = ch ∧ mbzSvLow (encode (.setv idx ch val)) = 0#16 ∧
      bField (encode (.setv idx ch val)) = val ∧ lowField (encode (.setv idx ch val)) = idx :=
  eq_svWord_iff.mp rfl

@[simp] theorem fields_encode_setvs (idx : BitVec 32) (r g b : Byte) :
    opField (encode (.setvs idx r g b)) = 0x3#4 ∧ mbzSvs (encode (.setvs idx r g b)) = 0#4 ∧
      rField (encode (.setvs idx r g b)) = r ∧ gField (encode (.setvs idx r g b)) = g ∧
      bField (encode (.setvs idx r g b)) = b ∧ lowField (encode (.setvs idx r g b)) = idx :=
  eq_svsWord_iff.mp rfl

@[simp] theorem fields_encode_clear : opField (encode .clear) = 0x4#4 ∧ mbzZ (encode .clear) = 0#60 :=
  eq_zWord_iff.mp rfl

@[simp] theorem fields_encode_evtHalf0 : opField (encode .evtHalf0) = 0x8#4 ∧ mbzZ (encode .evtHalf0) = 0#60 :=
  eq_zWord_iff.mp rfl

@[simp] theorem fields_encode_evtHalf1 : opField (encode .evtHalf1) = 0x9#4 ∧ mbzZ (encode .evtHalf1) = 0#60 :=
  eq_zWord_iff.mp rfl

/-! ### Decoding and encoding -/

/-- The word of an operation has its `OP` and zero must-be-zero fields, which is what `decode` checks. -/
@[simp] theorem decode_encode (i : Instr) : decode (encode i) = .instr i := by
  cases i <;> simp [decode]

/-- The checks that `decode` makes of a word and the operands it reads are all the fields of the word. -/
theorem encode_of_decode {w : OpWord} {i : Instr} (h : decode w = .instr i) : encode i = w := by
  unfold decode at h
  split_ifs at h with h1 hz h2 hz h3 hz h4 hz h8 hz h9 hz <;> cases h
  · exact (eq_cntWord_iff.mpr ⟨h1, hz, rfl⟩).symm
  · exact (eq_svWord_iff.mpr ⟨h2, hz.1, rfl, hz.2, rfl, rfl⟩).symm
  · exact (eq_svsWord_iff.mpr ⟨h3, hz, rfl, rfl, rfl, rfl⟩).symm
  · exact (eq_zWord_iff.mpr ⟨h4, hz⟩).symm
  · exact (eq_zWord_iff.mpr ⟨h8, hz⟩).symm
  · exact (eq_zWord_iff.mpr ⟨h9, hz⟩).symm

theorem decodeTableWord_toNat (w : OpWord) : decodeTableWord 64 w.toNat = (decode w).toInstr? := by
  simp [decodeTableWord, w.isLt]

/-- R85: a reserved `OP` or a must-be-zero field that is not zero spells no operation, since the word of an operation
has neither. -/
theorem decode_illegal {w : OpWord}
    (hbad : (opField w).toNat ∈ [0, 5, 6, 7, 10, 11, 12, 13, 14, 15] ∨ (opField w = 1#4 ∧ mbzCnt w ≠ 0) ∨
      (opField w = 2#4 ∧ (mbzSvHigh w ≠ 0 ∨ mbzSvLow w ≠ 0)) ∨ (opField w = 3#4 ∧ mbzSvs w ≠ 0) ∨
      (opField w = 4#4 ∧ mbzZ w ≠ 0) ∨ (opField w = 8#4 ∧ mbzZ w ≠ 0) ∨ (opField w = 9#4 ∧ mbzZ w ≠ 0)) :
    ∃ why, decode w = .illegal why := by
  cases hd : decode w with
  | illegal why => exact ⟨why, rfl⟩
  | instr i =>
    obtain rfl := encode_of_decode hd
    cases i <;> simp at hbad

/-! ### The opcode table -/

/-- The mask of a row of format `F_CNT` keeps `OP` and the must-be-zero fields of the word (R89). -/
theorem and_cntMask (w : OpWord) :
    w &&& (BitVec.allOnes 4 ++ BitVec.allOnes 28 ++ 0#32) = opField w ++ mbzCnt w ++ 0#32 := by
  nth_rewrite 1 [← cntFields_append w]
  exact BitVec.and_append.trans (by simp only [BitVec.and_append, BitVec.and_allOnes, BitVec.and_zero])

/-- The mask of a row of format `F_SV` keeps `OP` and both must-be-zero fields (R89). -/
theorem and_svMask (w : OpWord) :
    w &&& (BitVec.allOnes 4 ++ BitVec.allOnes 2 ++ 0#2 ++ BitVec.allOnes 16 ++ 0#8 ++ 0#32) =
      opField w ++ mbzSvHigh w ++ 0#2 ++ mbzSvLow w ++ 0#8 ++ 0#32 := by
  nth_rewrite 1 [← svFields_append w]
  exact BitVec.and_append.trans (by simp only [BitVec.and_append, BitVec.and_allOnes, BitVec.and_zero])

/-- The mask of a row of format `F_SVS` keeps `OP` and the must-be-zero fields (R89). -/
theorem and_svsMask (w : OpWord) :
    w &&& (BitVec.allOnes 4 ++ BitVec.allOnes 4 ++ 0#8 ++ 0#8 ++ 0#8 ++ 0#32) =
      opField w ++ mbzSvs w ++ 0#8 ++ 0#8 ++ 0#8 ++ 0#32 := by
  nth_rewrite 1 [← svsFields_append w]
  exact BitVec.and_append.trans (by simp only [BitVec.and_append, BitVec.and_allOnes, BitVec.and_zero])

theorem cntRow_holds_iff {w : OpWord} (m : String) (op : BitVec 4) :
    OpcodeRow.holds ⟨m, op ++ 0#28 ++ 0#32, BitVec.allOnes 4 ++ BitVec.allOnes 28 ++ 0#32⟩ w = true ↔
      opField w = op ∧ mbzCnt w = 0#28 := by
  rw [OpcodeRow.holds, beq_iff_eq, and_cntMask]
  exact append_eq_append_iff.trans (by simp only [append_eq_append_iff, and_true])

theorem svRow_holds_iff {w : OpWord} (m : String) (op : BitVec 4) :
    OpcodeRow.holds ⟨m, op ++ 0#2 ++ 0#2 ++ 0#16 ++ 0#8 ++ 0#32,
        BitVec.allOnes 4 ++ BitVec.allOnes 2 ++ 0#2 ++ BitVec.allOnes 16 ++ 0#8 ++ 0#32⟩ w = true ↔
      opField w = op ∧ mbzSvHigh w = 0#2 ∧ mbzSvLow w = 0#16 := by
  rw [OpcodeRow.holds, beq_iff_eq, and_svMask]
  exact append_eq_append_iff.trans (by simp only [append_eq_append_iff, and_true, and_assoc])

theorem svsRow_holds_iff {w : OpWord} (m : String) (op : BitVec 4) :
    OpcodeRow.holds ⟨m, op ++ 0#4 ++ 0#8 ++ 0#8 ++ 0#8 ++ 0#32,
        BitVec.allOnes 4 ++ BitVec.allOnes 4 ++ 0#8 ++ 0#8 ++ 0#8 ++ 0#32⟩ w = true ↔
      opField w = op ∧ mbzSvs w = 0#4 := by
  rw [OpcodeRow.holds, beq_iff_eq, and_svsMask]
  exact append_eq_append_iff.trans (by simp only [append_eq_append_iff, and_true])

theorem zRow_holds_iff {w : OpWord} (m : String) (op : BitVec 4) :
    OpcodeRow.holds ⟨m, op ++ 0#60, BitVec.allOnes 64⟩ w = true ↔ opField w = op ∧ mbzZ w = 0#60 := by
  rw [OpcodeRow.holds, beq_iff_eq, BitVec.and_allOnes]
  exact eq_zWord_iff

theorem opcodeTable_mnemonic_inj :
    ∀ r₁ ∈ opcodeTable, ∀ r₂ ∈ opcodeTable, r₁.mnemonic = r₂.mnemonic → r₁ = r₂ := by
  decide

/-- The row that holds of a word is that of the operation it decodes to (R89). -/
theorem decode_of_row_holds {row : OpcodeRow} {w : OpWord} (hrow : row ∈ opcodeTable) (h : row.holds w = true) :
    ∃ i, decode w = .instr i ∧ i.mnemonic = row.mnemonic := by
  simp only [opcodeTable, List.mem_cons, List.not_mem_nil, or_false] at hrow
  rcases hrow with rfl | rfl | rfl | rfl | rfl | rfl
  · obtain ⟨hop, hz⟩ := (cntRow_holds_iff "INIT" 1#4).mp h
    exact ⟨.init (lowField w), by simp [decode, hop, hz], rfl⟩
  · obtain ⟨hop, hh, hl⟩ := (svRow_holds_iff "SETV" 2#4).mp h
    exact ⟨.setv (lowField w) (chField w) (bField w), by simp [decode, hop, hh, hl], rfl⟩
  · obtain ⟨hop, hz⟩ := (svsRow_holds_iff "SETVS" 3#4).mp h
    exact ⟨.setvs (lowField w) (rField w) (gField w) (bField w), by simp [decode, hop, hz], rfl⟩
  · obtain ⟨hop, hz⟩ := (zRow_holds_iff "CLEAR" 4#4).mp h
    exact ⟨.clear, by simp [decode, hop, hz], rfl⟩
  · obtain ⟨hop, hz⟩ := (zRow_holds_iff "EVT_HALF0" 8#4).mp h
    exact ⟨.evtHalf0, by simp [decode, hop, hz], rfl⟩
  · obtain ⟨hop, hz⟩ := (zRow_holds_iff "EVT_HALF1" 9#4).mp h
    exact ⟨.evtHalf1, by simp [decode, hop, hz], rfl⟩

theorem exists_row_holds_encode (i : Instr) :
    ∃ row ∈ opcodeTable, row.mnemonic = i.mnemonic ∧ row.holds (encode i) = true := by
  cases i with
  | init count => exact ⟨_, by decide, rfl, (cntRow_holds_iff "INIT" 1#4).mpr (by simp)⟩
  | setv idx ch val => exact ⟨_, by decide, rfl, (svRow_holds_iff "SETV" 2#4).mpr (by simp)⟩
  | setvs idx r g b => exact ⟨_, by decide, rfl, (svsRow_holds_iff "SETVS" 3#4).mpr (by simp)⟩
  | clear => exact ⟨_, by decide, rfl, (zRow_holds_iff "CLEAR" 4#4).mpr (by simp)⟩
  | evtHalf0 => exact ⟨_, by decide, rfl, (zRow_holds_iff "EVT_HALF0" 8#4).mpr (by simp)⟩
  | evtHalf1 => exact ⟨_, by decide, rfl, (zRow_holds_iff "EVT_HALF1" 9#4).mpr (by simp)⟩

/-! ### Trace lines (R90) -/

theorem TraceLine.toWord?_init (n : Nat) :
    (TraceLine.init n).toWord? = if n < 2 ^ 32 then some (encode (.init (BitVec.ofNat 32 n))) else none := by
  simp only [toWord?, toInstr?, wellFormed, decide_eq_true_eq]
  split_ifs <;> rfl

theorem TraceLine.toWord?_setv (i c v : Nat) :
    (TraceLine.setv i c v).toWord? =
      if i < 2 ^ 32 ∧ c ≤ 3 ∧ v ≤ 255 then
        some (encode (.setv (BitVec.ofNat 32 i) (BitVec.ofNat 2 c) (BitVec.ofNat 8 v))) else none := by
  simp only [toWord?, toInstr?, wellFormed, Bool.and_eq_true, decide_eq_true_eq, and_assoc]
  split_ifs <;> rfl

theorem TraceLine.toWord?_setvs (i r g b : Nat) :
    (TraceLine.setvs i r g b).toWord? =
      if i < 2 ^ 32 ∧ r ≤ 255 ∧ g ≤ 255 ∧ b ≤ 255 then
        some (encode (.setvs (BitVec.ofNat 32 i) (BitVec.ofNat 8 r) (BitVec.ofNat 8 g) (BitVec.ofNat 8 b)))
      else none := by
  simp only [toWord?, toInstr?, wellFormed, Bool.and_eq_true, decide_eq_true_eq, and_assoc]
  split_ifs <;> rfl

end Sys2Proof

open Sys2Proof

/-- Settles O2, by the fields of the word of each operation. -/
theorem decodeOfEncodeIsTheInstruction : Obligations.DecodeOfEncodeIsTheInstruction := fun i =>
  ⟨decode_encode i, by rw [decodeTableWord_toNat, decode_encode, Decoded.toInstr?]⟩

/-- Settles O3: the checks that `decode` makes of a word leave the encoding as its one spelling. -/
theorem legalWordIsTheEncodingOfItsInstruction : Obligations.LegalWordIsTheEncodingOfItsInstruction :=
  fun _ _ => encode_of_decode

/-- Settles O4: rows that hold of one word share its mnemonic, and no two rows of the table do. -/
theorem decodeFollowsTheOpcodeTable : Obligations.DecodeFollowsTheOpcodeTable := by
  refine fun w => ⟨fun r₁ hr₁ r₂ hr₂ h₁ h₂ => ?_, fun row => decode_of_row_holds, fun i hi => ?_⟩
  · obtain ⟨i, hi, hm₁⟩ := decode_of_row_holds hr₁ h₁
    obtain ⟨j, hj, hm₂⟩ := decode_of_row_holds hr₂ h₂
    obtain rfl : i = j := by simpa [hi] using hj
    exact opcodeTable_mnemonic_inj r₁ hr₁ r₂ hr₂ (hm₁.symm.trans hm₂)
  · obtain rfl := encode_of_decode hi
    exact exists_row_holds_encode i

/-- Settles O1: each of the words is evaluated. -/
theorem workedWordsDecode : Obligations.WorkedWordsDecode := by
  unfold Obligations.WorkedWordsDecode
  decide

/-- Settles O5, one equation for each form of R90 with operands. -/
theorem traceLineSpellsItsWord : Obligations.TraceLineSpellsItsWord :=
  ⟨TraceLine.toWord?_init, TraceLine.toWord?_setv, TraceLine.toWord?_setvs, rfl, rfl, rfl⟩

end

section
/-! PROOFS. What the foreground does with the host's next word, and that the step after a load runs the loaded word. -/

namespace Sys2Proof.Machine

/-! ### The issue of a word -/

/-- In the foreground's turn, with no command in progress, the step is the issue of the host's next word (R100 (1)). -/
theorem step_issue {s : State} {pick : Nat} {w : OpWord} {ws : List OpWord} (hm : s.nextMove = .foreground pick)
    (hop : s.fgOp = none) (hw : s.words = w :: ws) : step s = issue w { s.takeMove with words := ws } := by
  simp [step, agentStep, foregroundStep, hm, hop, hw]

theorem issue_illegal {w : OpWord} {why : Illegal} (h : decode w = .illegal why) (s : State) :
    issue w s = .next (s.refuse (.illegalEncoding w)) := by
  rw [issue, h]

theorem issue_event {i : Instr} {h : Half} (he : i.event? = some h) (s : State) :
    issue (encode i) s = .next (s.refuse (.hostEvent (encode i))) := by
  simp only [issue, decode_encode, he]

theorem issue_command {i : Instr} (he : i.event? = none) (s : State) : issue (encode i) s = exec i s := by
  simp only [issue, decode_encode, he]

/-! ### The loader (assumption log 6) -/

theorem State.withFetchWord_toNat (s : State) (w : OpWord) : s.withFetchWord 64 w.toNat = placeWord w s := by
  rw [State.withFetchWord, Nat.mod_eq_of_lt w.isLt, BitVec.ofNat_toNat, BitVec.setWidth_eq]

theorem placeWord_command {i : Instr} (he : i.event? = none) (s : State) :
    placeWord (encode i) s = placeCommand (encode i) s := by
  simp [placeWord, Decoded.toInstr?, he]

theorem placeWord_event {i : Instr} {h : Half} (he : i.event? = some h) (s : State) :
    placeWord (encode i) s = placeEvent h s := by
  simp [placeWord, Decoded.toInstr?, he]

theorem step_placeCommand (w : OpWord) (s : State) : step (placeCommand w s) = issue w { s with fgOp := none } :=
  step_issue rfl rfl rfl

theorem ofEvent_of_event? {i : Instr} {h : Half} (he : i.event? = some h) : Instr.ofEvent h = i := by
  cases i <;> cases he <;> rfl

/-- A pending event is serviced unless the other is pending too and was raised earlier (R130). -/
theorem State.servicedHalf_of_pending {s : State} {h : Half} (hp : s.pending h = true)
    (ho : s.pending h.other = true → s.lastEvt = h.other) : s.servicedHalf = some h := by
  unfold State.servicedHalf
  cases h <;> simp only [State.pending, Half.other] at hp ho
  · cases h1 : s.pending1 <;> simp [hp, h1, ho, Half.other]
  · cases h0 : s.pending0 <;> simp [hp, h0, ho, Half.other]

/-- In the encoder's turn in a running block, the step is the operation of the event it services (R130). -/
theorem step_services {s : State} {h : Half} (hm : s.nextMove = .encoder) (hl : s.life = .running)
    (hh : s.servicedHalf = some h) : step s = exec (Instr.ofEvent h) s.takeMove := by
  simp [step, agentStep, encoderAgentStep, encoderTurn, hm, hl, hh]

theorem placeEvent_running (h : Half) {s : State} (hl : s.life = .running) :
    placeEvent h s =
      { s.setPending h true with
        lastEvt := if s.pending h.other then h.other else s.lastEvt, moves := .encoder :: s.moves } := by
  simp [placeEvent, hl]

theorem step_placeEvent (h : Half) {s : State} (hl : s.life = .running) :
    step (placeEvent h s) =
      exec (Instr.ofEvent h)
        { s.setPending h true with lastEvt := if s.pending h.other then h.other else s.lastEvt } := by
  have hserviced : (placeEvent h s).servicedHalf = some h := by
    rw [placeEvent_running h hl]
    exact State.servicedHalf_of_pending (by cases h <;> rfl)
      (by cases h <;> simp +contextual [State.pending, Half.other])
  rw [step_services rfl (by simp [placeEvent, hl]) hserviced, placeEvent_running h hl]
  cases h <;> rfl

end Sys2Proof.Machine

open Sys2Proof Sys2Proof.Machine

/-- Settles O9: the word spells no operation, and its issue is a refusal. -/
theorem illegalWordIsRefused : Obligations.IllegalWordIsRefused := by
  intro s pick w ws hm hop hw hbad
  obtain ⟨why, hwhy⟩ := decode_illegal hbad
  exact ⟨⟨why, hwhy⟩, by rw [step_issue hm hop hw, issue_illegal hwhy]; rfl⟩

/-- Settles O8: a command's word is issued, and an event placed by the loader is the one serviced. -/
theorem fetchWordRunsItsInstruction : Obligations.FetchWordRunsItsInstruction := by
  refine fun s i => ⟨fun he => ?_, fun h he hl => ?_⟩ <;> rw [State.withFetchWord_toNat]
  · rw [placeWord_command he, step_placeCommand, issue_command he]
  · rw [placeWord_event he, step_placeEvent h hl, ofEvent_of_event? he]

/-- Settles O10: the two words are the encodings of the event operations. -/
theorem eventWordOnTheHostPortIsRefused : Obligations.EventWordOnTheHostPortIsRefused := by
  intro s pick w ws hm hop hw hev
  rw [step_issue hm hop hw]
  rcases hev with rfl | rfl
  · exact issue_event (i := .evtHalf0) rfl _
  · exact issue_event (i := .evtHalf1) rfl _

end

section
/-! PROOFS. The LED store commands: what their writes leave in the store, in whatever order they are taken, what a run of
foreground steps does with a command in progress, and what a foreground step leaves alone (O6, O15 to O18, O45). -/

namespace Sys2Proof.Machine

/-! ### Byte writes of the store -/

/-- The store after a byte write `(i, c, v)`. -/
def Memory.store (m : Memory) (w : LedWrite) : Memory := m.write (ledAddr w.led w.channel) w.value

/-- The store after byte writes, the first of the list first. -/
def Memory.storeAll (m : Memory) (ws : List LedWrite) : Memory := ws.foldl Memory.store m

@[simp] theorem Memory.storeAll_nil (m : Memory) : m.storeAll [] = m := rfl

@[simp] theorem Memory.storeAll_cons (m : Memory) (w : LedWrite) (ws : List LedWrite) :
    m.storeAll (w :: ws) = (m.store w).storeAll ws := rfl

theorem Memory.wf_store {m : Memory} (w : LedWrite) (h : m.wf = true) : (m.store w).wf = true :=
  Memory.wf_write _ _ h

theorem Memory.wf_storeAll {m : Memory} (ws : List LedWrite) (h : m.wf = true) : (m.storeAll ws).wf = true := by
  induction ws generalizing m with
  | nil => exact h
  | cons w ws ih => exact ih (Memory.wf_store w h)

theorem Memory.read_store {m : Memory} (w : LedWrite) (i : Nat) (c : Channel) (h : m.wf = true) :
    (m.store w).read (ledAddr i c) = if i = w.led ∧ c = w.channel then w.value else m.read (ledAddr i c) := by
  simp only [Memory.store, Memory.read_write _ _ _ h, ledAddr_inj]

/-- A cell for which no write has another value than `v` holds `v` at the end, if it held `v` or is written at all. -/
theorem Memory.read_storeAll {m : Memory} {ws : List LedWrite} {i : Nat} {c : Channel} {v : Byte} (h : m.wf = true)
    (hv : ∀ w ∈ ws, w.led = i → w.channel = c → w.value = v)
    (hr : m.read (ledAddr i c) = v ∨ ∃ w ∈ ws, w.led = i ∧ w.channel = c) :
    (m.storeAll ws).read (ledAddr i c) = v := by
  induction ws generalizing m with
  | nil => simpa using hr
  | cons w ws ih =>
    obtain ⟨hw, hws⟩ := List.forall_mem_cons.mp hv
    refine ih (Memory.wf_store w h) hws ?_
    rw [Memory.read_store w i c h]
    by_cases hcell : i = w.led ∧ c = w.channel
    · exact .inl (by rw [if_pos hcell, hw hcell.1.symm hcell.2.symm])
    · rw [if_neg hcell]
      refine hr.imp_right fun ⟨x, hx, hi, hc⟩ => ⟨x, ?_, hi, hc⟩
      exact (List.mem_cons.mp hx).resolve_left fun e => hcell ⟨e ▸ hi.symm, e ▸ hc.symm⟩

theorem exists_ledAddr (a : Nat) : ∃ i c, ledAddr i c = a := by
  obtain h | h | h : a % 3 = 0 ∨ a % 3 = 1 ∨ a % 3 = 2 := by omega
  · exact ⟨a / 3, .r, by simp only [ledAddr, Channel.index]; omega⟩
  · exact ⟨a / 3, .g, by simp only [ledAddr, Channel.index]; omega⟩
  · exact ⟨a / 3, .b, by simp only [ledAddr, Channel.index]; omega⟩

/-! ### The writes of `SETVS` and of `CLEAR` -/

/-- The writes of `SETVS` are one for each channel. -/
theorem rgbWrites_channel_inj {i : Nat} {r g b : Byte} {w x : LedWrite} (hw : w ∈ rgbWrites i r g b)
    (hx : x ∈ rgbWrites i r g b) (hc : w.channel = x.channel) : w = x :=
  List.inj_on_of_nodup_map (f := LedWrite.channel) (by simp [rgbWrites]) hw hx hc

/-- The LED of `SETVS` holds the three bytes at the end, in whatever order the writes are taken (R107). -/
theorem Memory.read_storeAll_rgbWrites {m : Memory} {order : List LedWrite} {i : Nat} {r g b : Byte}
    (h : m.wf = true) (ho : order.Perm (rgbWrites i r g b)) :
    (m.storeAll order).read (ledAddr i .r) = r ∧ (m.storeAll order).read (ledAddr i .g) = g ∧
      (m.storeAll order).read (ledAddr i .b) = b := by
  have hread : ∀ w ∈ rgbWrites i r g b, (m.storeAll order).read (ledAddr i w.channel) = w.value := fun w hw =>
    Memory.read_storeAll h (fun x hx _ hc => by rw [rgbWrites_channel_inj (ho.mem_iff.mp hx) hw hc])
      (.inr ⟨w, ho.mem_iff.mpr hw, mem_rgbWrites hw, rfl⟩)
  simpa [rgbWrites] using hread

/-- The cells of the other LEDs hold what they held. -/
theorem Memory.read_storeAll_rgbWrites_of_ne {m : Memory} {order : List LedWrite} {i j : Nat} {r g b : Byte}
    (c : Channel) (h : m.wf = true) (ho : order.Perm (rgbWrites i r g b)) (hj : j ≠ i) :
    (m.storeAll order).read (ledAddr j c) = m.read (ledAddr j c) :=
  Memory.read_storeAll h (fun _ hx hl => absurd (hl.symm.trans (mem_rgbWrites (ho.mem_iff.mp hx))) hj) (.inl rfl)

theorem length_clearWrites (n : Nat) : (clearWrites n).length = 3 * n := by
  simp [clearWrites, rgbWrites, Nat.mul_comm]

/-- The writes of `CLEAR` are a zero write of every cell of the store (R110). -/
theorem mem_clearWrites_iff {n : Nat} {w : LedWrite} : w ∈ clearWrites n ↔ w.led < n ∧ w.value = 0 := by
  refine ⟨mem_clearWrites, fun ⟨hlt, hv⟩ => List.mem_flatMap.mpr ⟨w.led, List.mem_range.mpr hlt, ?_⟩⟩
  obtain ⟨i, c, v⟩ := w
  cases c <;> simp_all [rgbWrites]

/-- The zero writes of `CLEAR` leave a store that lists nothing, in whatever order they are taken (R111). -/
theorem Memory.storeAll_clearWrites {m : Memory} {order : List LedWrite} {n : Nat} (h : m.wf = true)
    (hin : m.within n = true) (ho : order.Perm (clearWrites n)) : m.storeAll order = [] := by
  refine Memory.eq_nil_of_read (Memory.wf_storeAll order h) fun a => ?_
  obtain ⟨i, c, rfl⟩ := exists_ledAddr a
  refine Memory.read_storeAll h (fun w hw _ _ => (mem_clearWrites (ho.mem_iff.mp hw)).2) ?_
  by_cases hi : i < n
  · exact .inr ⟨⟨i, c, 0⟩, ho.mem_iff.mpr (mem_clearWrites_iff.mpr ⟨hi, rfl⟩), rfl, rfl⟩
  · exact .inl (Memory.read_outside hin (Nat.le_of_not_lt (ledAddr_lt.not.mpr hi)))

/-! ### The issue of a command -/

theorem whenRunning_uninit {s : State} (hl : s.life = .uninit) (command : State) :
    whenRunning s command = { s with refused := true } := by
  simp [whenRunning, hl, State.refuse]

theorem whenRunning_running {s : State} (hl : s.life = .running) (command : State) :
    whenRunning s command = command := by
  simp [whenRunning, hl]

theorem exec_setvs_uninit {s : State} (hl : s.life = .uninit) (idx : BitVec 32) (r g b : Byte) :
    exec (.setvs idx r g b) s = .next { s with refused := true } := by
  rw [exec, execSetvs, whenRunning_uninit hl]

theorem exec_setvs_outOfRange {s : State} {idx : BitVec 32} (hl : s.life = .running)
    (hi : s.ledCount.toNat ≤ idx.toNat) (r g b : Byte) :
    exec (.setvs idx r g b) s = .next (s.returnStatus .outOfRange) := by
  simp [exec, execSetvs, whenRunning_running hl, inRange, hi]

theorem exec_setvs_inRange {s : State} {idx : BitVec 32} (hl : s.life = .running)
    (hi : idx.toNat < s.ledCount.toNat) (r g b : Byte) :
    exec (.setvs idx r g b) s = .next (beginCommand (.setvs idx r g b) (rgbWrites idx.toNat r g b) s) := by
  simp [exec, execSetvs, whenRunning_running hl, inRange, hi]

theorem exec_clear_uninit {s : State} (hl : s.life = .uninit) : exec .clear s = .next { s with refused := true } := by
  rw [exec, execClear, whenRunning_uninit hl]

theorem exec_clear_running {s : State} (hl : s.life = .running) :
    exec .clear s = .next (beginCommand .clear (clearWrites s.ledCount.toNat) s) := by
  rw [exec, execClear, whenRunning_running hl]

/-! ### The micro-steps of a command in progress -/

section

variable {s : State} {op : FgOp} (hop : s.fgOp = some op)

include hop

/-- With no write pending, the foreground takes the final micro-step (R100 (3)). -/
theorem foregroundStep_final (hd : op.dirtyPending = true) (hw : op.writes = []) (pick : Nat) :
    foregroundStep pick s = .next { s with dirty := true, status := .ok, fgOp := none } := by
  simp [foregroundStep, hop, microStep, hw, finalStep, hd, State.setDirty, State.returnStatus]

/-- With writes pending, the foreground performs the one that `pick` chooses (R100 (2)). -/
theorem foregroundStep_byte {pick : Nat} {w : LedWrite} (hw : op.writes[pick % op.writes.length]? = some w)
    (hlt : w.led < s.ledCount.toNat) :
    foregroundStep pick s =
      .next { s with led := s.led.store w
                     fgOp := some { op with writes := op.writes.eraseIdx (pick % op.writes.length) } } := by
  have hne : op.writes ≠ [] := fun h => by simp [h] at hw
  simp [foregroundStep, hop, microStep, hne, byteStep, hw, hlt, State.writeLed, Memory.store]

end

theorem runForeground_cons {p : Nat} {s t : State} (h : foregroundStep p s = .next t) (ps : List Nat) :
    runForeground (p :: ps) s = runForeground ps t := by
  rw [runForeground, h]

/-- The micro-steps of a command in progress perform its pending writes in some order and then the final micro-step,
whatever the choices (R100). -/
theorem runForeground_command {s : State} {op : FgOp} {ps : List Nat} (q : Nat) (hop : s.fgOp = some op)
    (hd : op.dirtyPending = true) (hin : ∀ w ∈ op.writes, w.led < s.ledCount.toNat)
    (hlen : ps.length = op.writes.length) :
    ∃ order : List LedWrite, order.Perm op.writes ∧ runForeground (ps ++ [q]) s =
      .next { s with led := s.led.storeAll order, dirty := true, status := .ok, fgOp := none } := by
  induction ps generalizing s op with
  | nil =>
    have hw : op.writes = [] := List.length_eq_zero_iff.mp hlen.symm
    exact ⟨[], by rw [hw], runForeground_cons (foregroundStep_final hop hd hw q) []⟩
  | cons p ps ih =>
    have hk : p % op.writes.length < op.writes.length := Nat.mod_lt _ (by simp [← hlen])
    have hstep := foregroundStep_byte hop (List.getElem?_eq_getElem hk) (hin _ (List.getElem_mem hk))
    obtain ⟨order, ho, hrun⟩ := ih
      (s := { s with led := s.led.store op.writes[p % op.writes.length]
                     fgOp := some { op with writes := op.writes.eraseIdx (p % op.writes.length) } })
      rfl hd (fun w hw => hin w (List.mem_of_mem_eraseIdx hw))
      (by rw [List.length_eraseIdx_of_lt hk, ← hlen, List.length_cons, Nat.add_sub_cancel])
    exact ⟨op.writes[p % op.writes.length] :: order, (ho.cons _).trans (List.getElem_cons_eraseIdx_perm hk),
      (runForeground_cons hstep _).trans hrun⟩

/-! ### What the foreground leaves alone -/

/-- `PortFrame s t`: `t` is `s` but for the LED store, `DIRTY`, the command in progress, the status, the refusal mark
and the host's words. -/
inductive PortFrame (s : State) : State → Prop where
  | mk (led : Memory) (dirty : Bool) (fgOp : Option FgOp) (status : Status) (refused : Bool) (words : List OpWord) :
    PortFrame s { s with led := led, dirty := dirty, fgOp := fgOp, status := status, refused := refused, words := words }

theorem PortFrame.eq_update {s t : State} (h : PortFrame s t) :
    t = { s with led := t.led, dirty := t.dirty, fgOp := t.fgOp, status := t.status, refused := t.refused,
                 words := t.words } := by
  cases h; rfl

theorem microStep_portFrame {pick : Nat} {op : FgOp} {s t : State} (hs : microStep pick op s = .next t) :
    PortFrame s t := by
  rcases microStep_cases hs with ⟨_, rfl⟩ | ⟨_, _, _, _, rfl⟩ <;> exact ⟨_, _, _, _, _, _⟩

/-- In a running block the issue of a word, taken from the host's words `ws`, changes neither the store nor `DIRTY`
(R101). -/
theorem issue_portFrame {s t : State} {w : OpWord} {ws : List OpWord} (hl : s.life = .running)
    (hs : issue w { s with words := ws } = .next t) : PortFrame s t ∧ t.led = s.led ∧ t.dirty = s.dirty := by
  rcases issue_cases hs with ⟨_, rfl⟩ | ⟨_, _, he, hx⟩
  · exact ⟨⟨_, _, _, _, _, _⟩, rfl, rfl⟩
  · rcases exec_command_cases he hx with ⟨_, rfl⟩ | ⟨_, rfl⟩ | ⟨_, _, _, _, rfl⟩ | ⟨hu, _⟩ | ⟨hu, _⟩
    · exact ⟨⟨_, _, _, _, _, _⟩, rfl, rfl⟩
    · exact ⟨⟨_, _, _, _, _, _⟩, rfl, rfl⟩
    · exact ⟨⟨_, _, _, _, _, _⟩, rfl, rfl⟩
    · cases hl.symm.trans hu
    · cases hl.symm.trans hu

/-! ### The DATA step and the live store -/

/-- A DATA step writes the LED at the cursor, as the store is now, to the half of its event (R135). -/
theorem dataRow_half (h : Half) (s : State) : (dataRow h s).half h = s.ledHalf s.cursor.toNat := by
  rcases dataRow_cases h s with ⟨_, e⟩ | ⟨_, e⟩ <;> rw [e] <;> exact halfOf_setHalf_same _ _ _

theorem encoderStep_data {s : State} (h : Half) (hst : s.encState = .data) (hc : s.cursor.toNat < s.ledCount.toNat) :
    encoderStep h s = .next ((dataRow h s.enterEncoder).leaveEncoder h) := by
  simp [encoderStep, hst, hc]

end Sys2Proof.Machine

open Sys2Proof Sys2Proof.Machine

/-- Settles O15: the writes are taken in some order, and no two of them are to one cell. -/
theorem setvsFollowsItsRule : Obligations.SetvsFollowsItsRule := by
  refine fun idx r g b s => ⟨fun hl => exec_setvs_uninit hl idx r g b, fun hl hi => exec_setvs_outOfRange hl hi r g b,
    fun hl hi => ⟨exec_setvs_inRange hl hi r g b, fun hwf p₁ p₂ p₃ q => ?_⟩⟩
  obtain ⟨order, ho, hrun⟩ := runForeground_command (s := beginCommand (.setvs idx r g b) (rgbWrites idx.toNat r g b) s)
    (ps := [p₁, p₂, p₃]) q rfl rfl (fun w hw => (mem_rgbWrites hw).symm ▸ hi) rfl
  obtain ⟨hr, hg, hb⟩ := Memory.read_storeAll_rgbWrites hwf ho
  exact ⟨_, hrun, rfl, hr, hg, hb, fun i c hne => Memory.read_storeAll_rgbWrites_of_ne c hwf ho hne⟩

/-- Settles O16: the writes are taken in some order, and every cell of the store is written with 0. -/
theorem clearFollowsItsRule : Obligations.ClearFollowsItsRule := by
  refine fun s => ⟨exec_clear_uninit, fun hl => ⟨_, _, exec_clear_running hl, rfl, rfl, rfl, length_clearWrites _,
    fun _ => mem_clearWrites_iff, fun hwf hin ps q hlen => ?_⟩⟩
  obtain ⟨order, ho, hrun⟩ := runForeground_command (s := beginCommand .clear (clearWrites s.ledCount.toNat) s) q rfl rfl
    (fun w hw => (mem_clearWrites hw).1) (hlen.trans (length_clearWrites _).symm)
  rw [hrun, beginCommand_led, Memory.storeAll_clearWrites hwf hin ho]
  rfl

/-- Settles O17: `pick` chooses the write at its index modulo their number, so `k` chooses the write at index `k`. -/
theorem microStepsOfACommand : Obligations.MicroStepsOfACommand := by
  refine fun s op hop hd hin => ⟨foregroundStep_final hop hd, fun k w hw => ⟨k, ?_⟩, fun hne pick => ?_⟩
  · have hk : k % op.writes.length = k := Nat.mod_eq_of_lt (List.getElem?_eq_some_iff.mp hw).1
    have hstep := foregroundStep_byte (pick := k) hop (hk.symm ▸ hw) (hin w (List.mem_of_getElem? hw))
    rwa [hk] at hstep
  · have hk : pick % op.writes.length < op.writes.length := Nat.mod_lt _ (List.length_pos_iff.mpr hne)
    have hw := List.getElem?_eq_getElem hk
    exact ⟨_, _, hw, foregroundStep_byte hop hw (hin _ (List.getElem_mem hk))⟩

/-- Settles O18, by what a foreground step can do. -/
theorem foregroundLeavesTheEncoderAlone : Obligations.ForegroundLeavesTheEncoderAlone := by
  intro s s' pick hl hs
  rcases foregroundStep_cases hs with ⟨op, hop, hm⟩ | ⟨_, _, rfl⟩ | ⟨w, ws, _, _, hi⟩
  · exact ⟨(microStep_portFrame hm).eq_update, fun hn => by simp [hop] at hn⟩
  · exact ⟨rfl, fun _ => ⟨rfl, rfl⟩⟩
  · obtain ⟨hframe, hsame⟩ := issue_portFrame hl hi
    exact ⟨hframe.eq_update, fun _ => hsame⟩

/-- Settles O45: the first write taken is that of R, and the DATA step reads the store as it is then. -/
theorem tornUpdateIsARun : Obligations.TornUpdateIsARun := by
  intro h r g b s hl hst hc hwf
  refine ⟨_, _, _, exec_setvs_inRange hl hc r g b,
    foregroundStep_byte (pick := 0) (w := ⟨s.cursor.toNat, .r, r⟩) rfl rfl hc,
    (exec_ofEvent h _).trans (encoderStep_data h hst hc), by simp, ?_⟩
  rw [State.half_congr (State.leaveEncoder_buf _ _), dataRow_half]
  simp [State.ledHalf, State.readLed, Memory.read_store, hwf]

/-- Settles O6: the word is the encoding of the command it decodes to, and its issue is that command. -/
theorem stepRunsTheDecodedCommand : Obligations.StepRunsTheDecodedCommand := by
  intro s pick w ws i hm hop hw hd he
  obtain rfl := encode_of_decode hd
  rw [step_issue hm hop hw, issue_command he]

end

section
/-! PROOFS. What an encoder step does: its frame, the next state of each row, the entries it writes, and that it reads
neither the other half nor, in DATA, `DIRTY` (O7, O20 to O26). -/

namespace Sys2Proof.Machine

/-! ### The frame of an encoder step -/

/-- `EncoderFrame s t`: `t` is `s` but for the sequencer, `DIRTY`, the buffer, `WLOG` and the marks of the events, with
one encoder step more. -/
inductive EncoderFrame (s : State) : State → Prop where
  | mk (encState : EncState) (cursor : BitVec 32) (resetCount : Nat) (zhw : Fin 3) (dirty : Bool) (buf : Buffer)
      (wlog : List WriteRecord) (pending0 pending1 : Bool) :
    EncoderFrame s { s with encState := encState, cursor := cursor, resetCount := resetCount, zhw := zhw, dirty := dirty
                            buf := buf, wlog := wlog, encSteps := s.encSteps + 1, pending0 := pending0
                            pending1 := pending1 }

theorem EncoderFrame.eq_update {s t : State} (h : EncoderFrame s t) :
    t = { s with encState := t.encState, cursor := t.cursor, resetCount := t.resetCount, zhw := t.zhw
                 dirty := t.dirty, buf := t.buf, wlog := t.wlog, encSteps := s.encSteps + 1
                 pending0 := t.pending0, pending1 := t.pending1 } := by
  cases h; rfl

theorem EncoderFrame.leaveEncoder {s t : State} (hf : EncoderFrame s t) (h : Half) :
    EncoderFrame s (t.leaveEncoder h) := by
  cases hf; cases h <;> exact ⟨_, _, _, _, _, _, _, _, _⟩

theorem EncoderFrame.sampleDirty {s t : State} (hf : EncoderFrame s t) (e : EncState) :
    EncoderFrame s (t.sampleDirty e) := by
  cases hf
  unfold State.sampleDirty
  split <;> exact ⟨_, _, _, _, _, _, _, _, _⟩

theorem encoderStep_frame {h : Half} {s t : State} (hs : encoderStep h s = .next t) : EncoderFrame s t := by
  rcases encoderStep_cases hs with ⟨_, rfl⟩ | ⟨_, rfl⟩ | ⟨_, _, rfl⟩ <;> refine .leaveEncoder ?_ h
  · rcases resetRow_cases h s.enterEncoder with ⟨_, e⟩ | ⟨_, _, e⟩ | ⟨_, _, e⟩ <;> rw [e]
    · exact ⟨_, _, _, _, _, _, _, _, _⟩
    · exact ⟨_, _, _, _, _, _, _, _, _⟩
    · exact .sampleDirty ⟨_, _, _, _, _, _, _, _, _⟩ _
  · exact .sampleDirty ⟨_, _, _, _, _, _, _, _, _⟩ _
  · rcases dataRow_cases h s.enterEncoder with ⟨_, e⟩ | ⟨_, e⟩ <;> rw [e] <;> exact ⟨_, _, _, _, _, _, _, _, _⟩

/-- An encoder step clears the mark of the event it services and leaves the other (R138, R130). -/
theorem encoderStep_pending {h : Half} {s t : State} (hs : encoderStep h s = .next t) (k : Half) :
    t.pending k = if k = h then false else s.pending k := by
  rcases encoderStep_cases hs with ⟨_, rfl⟩ | ⟨_, rfl⟩ | ⟨_, _, rfl⟩ <;> rw [State.pending_leaveEncoder] <;>
    exact if_congr Iff.rfl rfl (State.pending_congr (by simp) (by simp) k)

/-! ### The next state of each row -/

theorem encoderStep_reset {s : State} (h : Half) (hst : s.encState = .reset) :
    encoderStep h s = .next ((resetRow h s.enterEncoder).leaveEncoder h) := by
  simp [encoderStep, hst]

theorem encoderStep_idle {s : State} (h : Half) (hst : s.encState = .idle) :
    encoderStep h s = .next ((idleRow s.enterEncoder).leaveEncoder h) := by
  simp [encoderStep, hst]

/-- The sample of `DIRTY` leaves it clear and starts a pass where it was set (R70). -/
theorem State.sampleDirty_eq (s : State) (e : EncState) :
    s.sampleDirty e = { s with dirty := false, encState := if s.dirty then .data else e } := by
  cases hd : s.dirty <;> simp [State.sampleDirty, hd]

/-- RESET, row 1 (R131). -/
theorem encoderStep_zeroFill {s : State} (h : Half) (hst : s.encState = .reset) (hz : s.zhw < 2) :
    encoderStep h s =
      .next { s.setPending h false with
              encSteps := s.encSteps + 1, zhw := s.zhw + 1, buf := setHalf s.buf h zeroHalf
              wlog := s.wlog ++ [⟨s.encSteps + 1, h, .zero, zeroHalf⟩] } := by
  rw [encoderStep_reset h hst, show resetRow h s.enterEncoder = zeroFillRow h s.enterEncoder from if_pos hz]
  cases h <;> rfl

/-- RESET, row 2 (R132). -/
theorem encoderStep_count {s : State} (h : Half) (hst : s.encState = .reset) (hz : s.zhw = 2)
    (hc : s.resetCount < s.cfg.resetCycles) :
    encoderStep h s =
      .next { s.setPending h false with encSteps := s.encSteps + 1, resetCount := s.resetCount + 1 } := by
  have hrow : resetRow h s.enterEncoder = countRow s.enterEncoder := (if_neg (by simp [hz])).trans (if_pos hc)
  rw [encoderStep_reset h hst, hrow]
  cases h <;> rfl

/-- RESET, row 3 (R133). -/
theorem encoderStep_endReset {s : State} (h : Half) (hst : s.encState = .reset) (hz : s.zhw = 2)
    (hc : s.cfg.resetCycles ≤ s.resetCount) :
    encoderStep h s =
      .next { s.setPending h false with
              encSteps := s.encSteps + 1, cursor := 0, dirty := false
              encState := if s.dirty then .data else .idle } := by
  have hrow : resetRow h s.enterEncoder = endResetRow s.enterEncoder :=
    (if_neg (by simp [hz])).trans (if_neg (Nat.not_lt.mpr hc))
  rw [encoderStep_reset h hst, hrow, endResetRow, State.sampleDirty_eq]
  cases h <;> rfl

/-- IDLE, row 4 (R134). -/
theorem encoderStep_idle_eq {s : State} (h : Half) (hst : s.encState = .idle) :
    encoderStep h s =
      .next { s.setPending h false with
              encSteps := s.encSteps + 1, dirty := false, encState := if s.dirty then .data else .idle } := by
  rw [encoderStep_idle h hst, idleRow, State.sampleDirty_eq]
  cases h <;> rfl

/-- DATA, row 6 after row 5: the last LED of a pass (R135, R136). -/
theorem encoderStep_lastLed {s : State} (h : Half) (hst : s.encState = .data)
    (hc : s.cursor.toNat + 1 = s.ledCount.toNat) :
    encoderStep h s =
      .next { s.setPending h false with
              encSteps := s.encSteps + 1, buf := setHalf s.buf h (s.ledHalf s.cursor.toNat)
              wlog := s.wlog ++ [⟨s.encSteps + 1, h, .led s.cursor.toNat, s.ledHalf s.cursor.toNat⟩]
              cursor := 0, zhw := 0, resetCount := 0, encState := .reset } := by
  have hrow : dataRow h s.enterEncoder = endPassRow (encodeRow h s.enterEncoder) := if_pos hc
  rw [encoderStep_data h hst (by omega), hrow]
  cases h <;> rfl

/-- DATA, row 7 after row 5: another LED follows (R135, R137). -/
theorem encoderStep_nextLed {s : State} (h : Half) (hst : s.encState = .data)
    (hc : s.cursor.toNat + 1 < s.ledCount.toNat) :
    encoderStep h s =
      .next { s.setPending h false with
              encSteps := s.encSteps + 1, buf := setHalf s.buf h (s.ledHalf s.cursor.toNat)
              wlog := s.wlog ++ [⟨s.encSteps + 1, h, .led s.cursor.toNat, s.ledHalf s.cursor.toNat⟩]
              cursor := s.cursor + 1 } := by
  have hrow : dataRow h s.enterEncoder = nextLedRow (encodeRow h s.enterEncoder) := if_neg (Nat.ne_of_lt hc)
  rw [encoderStep_data h hst (by omega), hrow]
  cases h <;> rfl

/-- In DATA without an LED to encode the model stops (assumption log 14). -/
theorem encoderStep_ledAbsent {s : State} (h : Half) (hst : s.encState = .data)
    (hc : s.ledCount.toNat ≤ s.cursor.toNat) : encoderStep h s = .fault (.ledCellAbsent s.cursor.toNat .r) := by
  simp [encoderStep, hst, Nat.not_lt.mpr hc]

/-- The cursor of the next LED does not wrap (R141). -/
theorem toNat_add_one {c n : BitVec 32} (h : c.toNat < n.toNat) : (c + 1).toNat = c.toNat + 1 := by
  bv_omega

/-! ### Entry by entry -/

theorem entryHalf_eq_iff {h : Half} {j : Nat} (hj : j < 48) : entryHalf j = h ↔ j / 24 = h.index := by
  unfold entryHalf
  cases h <;> split <;> simp [Half.index] <;> omega

theorem setHalf_getElem_of_ne {b : Buffer} {h : Half} (d : HalfData) {j : Nat} (hj : j < 48)
    (hne : j / 24 ≠ h.index) : (setHalf b h d)[j] = b[j] := by
  rw [setHalf_getElem, if_neg fun he => hne ((entryHalf_eq_iff hj).mp he)]

/-- Entry `8*c + k` of an LED's values is the pulse of bit `7 - k` of channel `c` (R135, R170). -/
theorem State.ledHalf_getElem (s : State) (i : Nat) (c : Channel) (k : Nat) (hk : k < 8) :
    (s.ledHalf i)[8 * c.index + k]'(by cases c <;> simp only [Channel.index] <;> omega) =
      pulse s.cfg ((s.readLed i c).getLsbD (7 - k)) := by
  unfold State.ledHalf
  rw [rgbHalf_getElem _ _ _ _ _ _ hk, ct_getElem _ _ _ hk]
  cases c <;> rfl

/-- The entries of a half to which an LED's values were written (R64, R135). -/
theorem setHalf_ledHalf_getElem (b : Buffer) (h : Half) (s : State) (i : Nat) {c : Channel} {k j : Nat} (hj : j < 48)
    (hk : k < 8) (e : j = 24 * h.index + 8 * c.index + k) :
    (setHalf b h (s.ledHalf i))[j] = if (s.readLed i c).getLsbD (7 - k) then s.cfg.tLong else s.cfg.tShort := by
  have hlt : 8 * c.index + k < 24 := by cases c <;> simp only [Channel.index] <;> omega
  obtain rfl : j = 24 * h.index + (8 * c.index + k) := by omega
  rw [← halfOf_getElem _ h _ hlt]
  simp only [halfOf_setHalf_same]
  exact s.ledHalf_getElem i c k hk

/-! ### The other half is not read -/

theorem setHalf_comm (b : Buffer) (h : Half) (d e : HalfData) :
    setHalf (setHalf b h.other d) h e = setHalf (setHalf b h e) h.other d := by
  refine Vector.ext fun j hj => ?_
  simp only [setHalf_getElem]
  by_cases hj' : entryHalf j = h <;> simp [hj']

theorem State.sampleDirty_writeHalf (s : State) (k : Half) (d : HalfData) (e : EncState) :
    (s.writeHalf k d).sampleDirty e = (s.sampleDirty e).writeHalf k d := by
  cases hd : s.dirty <;> simp [State.sampleDirty, State.writeHalf, hd]

theorem State.leaveEncoder_writeHalf (s : State) (h k : Half) (d : HalfData) :
    (s.writeHalf k d).leaveEncoder h = (s.leaveEncoder h).writeHalf k d := by
  cases h <;> rfl

theorem resetRow_writeHalf_other (h : Half) (d : HalfData) (s : State) :
    resetRow h (s.writeHalf h.other d) = (resetRow h s).writeHalf h.other d := by
  unfold resetRow
  rw [apply_ite (State.writeHalf h.other d), apply_ite (State.writeHalf h.other d)]
  refine if_congr Iff.rfl ?_ (if_congr Iff.rfl rfl ?_)
  · simp [zeroFillRow, State.writeHalf, State.logWrite, setHalf_comm]
  · exact State.sampleDirty_writeHalf { s with cursor := 0 } _ _ _

theorem dataRow_writeHalf_other (h : Half) (d : HalfData) (s : State) :
    dataRow h (s.writeHalf h.other d) = (dataRow h s).writeHalf h.other d := by
  have hencode : encodeRow h (s.writeHalf h.other d) = (encodeRow h s).writeHalf h.other d :=
    congrArg (fun b => { encodeRow h s with buf := b }) (setHalf_comm _ _ _ _)
  unfold dataRow
  rw [apply_ite (State.writeHalf h.other d), hencode]
  exact if_congr Iff.rfl rfl rfl

/-- With any other content in the half that is not its event's, an encoder step does the same (R130). -/
theorem encoderStep_writeHalf_other {h : Half} {s t : State} (d : HalfData) (hs : encoderStep h s = .next t) :
    encoderStep h (s.writeHalf h.other d) = .next (t.writeHalf h.other d) := by
  rcases encoderStep_cases hs with ⟨hst, rfl⟩ | ⟨hst, rfl⟩ | ⟨hst, hc, rfl⟩ <;> rw [← State.leaveEncoder_writeHalf]
  · rw [← resetRow_writeHalf_other]
    exact encoderStep_reset h hst
  · rw [idleRow, ← State.sampleDirty_writeHalf]
    exact encoderStep_idle h hst
  · rw [← dataRow_writeHalf_other]
    exact encoderStep_data h hst hc

/-! ### `DIRTY` is not read in DATA -/

theorem dataRow_dirty_update (h : Half) (b : Bool) (s : State) :
    dataRow h { s with dirty := b } = { dataRow h s with dirty := b } := by
  rcases dataRow_cases h s with ⟨hc, e⟩ | ⟨hc, e⟩ <;> rw [e]
  · exact if_pos hc
  · exact if_neg hc

/-- With the other value of `DIRTY`, a DATA step does the same (C5). -/
theorem encoderStep_dirty_update {h : Half} {s t : State} (b : Bool) (hst : s.encState = .data)
    (hs : encoderStep h s = .next t) : encoderStep h { s with dirty := b } = .next { t with dirty := b } := by
  rcases encoderStep_cases hs with ⟨he, _⟩ | ⟨he, _⟩ | ⟨_, hc, rfl⟩
  · simp [hst] at he
  · simp [hst] at he
  · rw [encoderStep_data (s := { s with dirty := b }) h hst hc]
    have hrow : dataRow h (State.enterEncoder { s with dirty := b }) = { dataRow h s.enterEncoder with dirty := b } :=
      dataRow_dirty_update h b s.enterEncoder
    rw [hrow]
    cases h <;> rfl

end Sys2Proof.Machine

open Sys2Proof Sys2Proof.Machine

/-- Settles O22: the next state of row 5 with row 6 or row 7, and the entries of the half it writes. -/
theorem dataRowsFollowTheTable : Obligations.DataRowsFollowTheTable := by
  intro h s hst hc
  rw [exec_ofEvent]
  obtain hlast | hnext := Nat.eq_or_lt_of_le (Nat.succ_le_of_lt hc)
  · exact ⟨_, encoderStep_lastLed h hst hlast, fun _ _ j hk hj => setHalf_ledHalf_getElem _ h s _ j.isLt hk hj,
      fun j hj => setHalf_getElem_of_ne _ j.isLt hj, by simp [State.half], fun _ => rfl,
      fun hlt => absurd hlast (Nat.ne_of_lt hlt)⟩
  · exact ⟨_, encoderStep_nextLed h hst hnext, fun _ _ j hk hj => setHalf_ledHalf_getElem _ h s _ j.isLt hk hj,
      fun j hj => setHalf_getElem_of_ne _ j.isLt hj, by simp [State.half],
      fun hlast => absurd hlast (Nat.ne_of_lt hnext), fun _ => ⟨by simp [State.position, hst], toNat_add_one hc⟩⟩

/-- Settles O23: every row keeps the frame, and the return clears the mark of the event. -/
theorem eventFrame : Obligations.EventFrame := by
  intro h s t hs
  rw [exec_ofEvent] at hs
  exact ⟨encoderStep_half_other hs, by simp [encoderStep_pending hs], by simp [encoderStep_pending hs],
    (encoderStep_frame hs).eq_update⟩

/-- Settles O25: every row commutes with a write of the other half. -/
theorem eventNeverReadsTheOtherHalf : Obligations.EventNeverReadsTheOtherHalf := by
  intro h d s t hs
  rw [exec_ofEvent] at hs ⊢
  exact encoderStep_writeHalf_other d hs

/-- Settles O26: the DATA rows commute with a write of `DIRTY`, which only RESET and IDLE clear. -/
theorem dataNeverSamplesDirty : Obligations.DataNeverSamplesDirty := by
  intro h b s t hst hs
  rw [exec_ofEvent] at hs ⊢
  refine ⟨?_, encoderStep_dirty_update b hst hs⟩
  rcases encoderStep_dirty_cases hs with hd | ⟨_, _, _, hidle | ⟨hreset, _⟩⟩
  · exact hd
  · simp [hst] at hidle
  · simp [hst] at hreset

/-- Settles O7: the half serviced is the pending one, and of two the one raised earlier. -/
theorem stepServicesThePendingEvent : Obligations.StepServicesThePendingEvent := by
  intro s hm hl
  refine ⟨fun h0 h1 => step_services (h := .first) hm hl ?_, fun h0 h1 => step_services (h := .second) hm hl ?_,
    fun h0 h1 he => step_services (h := .first) hm hl ?_, fun h0 h1 he => step_services (h := .second) hm hl ?_,
    fun h0 h1 => ?_⟩
  · exact State.servicedHalf_of_pending h0 (by simp [State.pending, Half.other, h1])
  · exact State.servicedHalf_of_pending h1 (by simp [State.pending, Half.other, h0])
  · exact State.servicedHalf_of_pending h0 fun _ => he
  · exact State.servicedHalf_of_pending h1 fun _ => he
  · simp [step, hm, agentStep, encoderAgentStep, encoderTurn, hl, State.servicedHalf, h0, h1]

/-- Settles O20: each row of RESET has one next state, the guard of the row being its case. -/
theorem resetRowsFollowTheTable : Obligations.ResetRowsFollowTheTable := by
  intro h s hst
  rw [exec_ofEvent]
  refine ⟨fun hz => ⟨_, encoderStep_zeroFill h hst hz, ?_, fun j => ?_, rfl⟩, encoderStep_count h hst,
    fun hz hc hd => ?_, fun hz hc hd => ?_⟩
  · obtain hz | hz : s.zhw = 0 ∨ s.zhw = 1 := by omega
    · simp [hz]
    · simp [hz]
  · have hj := setHalf_getElem s.buf h zeroHalf j.val j.isLt
    simpa [entryHalf_eq_iff j.isLt] using hj
  · simp [encoderStep_endReset h hst hz hc, hd]
  · simp [encoderStep_endReset h hst hz hc, hd]

/-- Settles O21: the next state of row 4, for both values of `DIRTY`. -/
theorem idleRowFollowsTheTable : Obligations.IdleRowFollowsTheTable := by
  intro h s hst
  rw [exec_ofEvent, encoderStep_idle_eq h hst]
  refine ⟨fun hd => ?_, fun hd => ?_⟩
  · simp [hd]
  · simp [hd, ← hst]

/-- Settles O24: an encoder step stops only in DATA, where row 5 has no LED to encode. -/
theorem eventsCompleteWhereTheCursorIsInTheStore : Obligations.EventsCompleteWhereTheCursorIsInTheStore :=
  fun _ => ⟨fun hc => ⟨encoderStep_next hc, encoderStep_next hc⟩,
    fun hst hc => ⟨encoderStep_ledAbsent .first hst hc, encoderStep_ledAbsent .second hst hc⟩⟩

end

section
/-! PROOFS. With the deadline met every step keeps the halves in strict alternation and the zero halves of R163
(O36). -/

namespace Sys2Proof.Machine

/-! ### What a step leaves of the life, the parameters and the number of encoder steps -/

theorem SameBlock.takeAlloc (s : State) (ws : List OpWord) :
    SameBlock s ({ s with words := ws } : State).takeAlloc := by
  unfold State.takeAlloc
  split <;> exact ⟨_, _, _, _, _, _, _⟩

theorem SameBlock.life_eq {s t : State} (e : SameBlock s t) : t.life = s.life := by
  cases e; rfl

/-- A step initialises the block, or leaves its life and its parameters (R192, R6). -/
theorem StepEffect.initialises_or_life_eq {s t : State} {m : Move} (e : StepEffect s m t) :
    (s.life = .uninit ∧ ∃ u count, SameBlock s u ∧ t = initialise count u) ∨
      (t.life = s.life ∧ t.cfg = s.cfg) := by
  cases e with
  | initialises _ ws count _ _ hl => exact .inl ⟨hl, _, count, .takeAlloc s ws, rfl⟩
  | services _ _ _ _ ht => cases encoderStep_frame ht; exact .inr ⟨rfl, rfl⟩
  | answers _ _ _ hsame => cases hsame; exact .inr ⟨rfl, rfl⟩
  | endsSlot => exact .inr ⟨by simp, by simp⟩
  | waits => exact .inr ⟨rfl, rfl⟩
  | writesByte => exact .inr ⟨rfl, rfl⟩
  | finishes => exact .inr ⟨rfl, rfl⟩
  | begins => exact .inr ⟨rfl, rfl⟩

theorem StepEffect.encSteps_eq {s t : State} {m : Move} (e : StepEffect s m t) (hm : m ≠ .encoder) :
    t.encSteps = s.encSteps := by
  cases e with
  | services _ hm' => exact absurd hm' hm
  | answers _ _ _ hsame => cases hsame; rfl
  | endsSlot => simp
  | waits => rfl
  | writesByte => rfl
  | finishes => rfl
  | begins => rfl
  | initialises => simp

/-! ### The zero halves of R163 -/

/-- The zero halves of IDLE, of RESET and of the start of a pass (R163). -/
structure ZeroHalves (s : State) : Prop where
  idle_zero : s.encState = .idle → s.bufZero
  reset_zero : s.encState = .reset → s.zhw = 2 → s.bufZero
  data_zero : s.encState = .data → s.cursor = 0 → s.bufZero
  half_zero : s.encState = .reset → s.zhw = 1 → s.half s.nextHalf.other = zeroHalf

theorem State.bufZero.half {s : State} (hz : s.bufZero) (h : Half) : s.half h = zeroHalf := by
  obtain ⟨h0, h1⟩ := hz
  cases h
  · exact h0
  · exact h1

theorem State.bufZero_of_halves {s : State} (h : Half) (hh : s.half h = zeroHalf) (ho : s.half h.other = zeroHalf) :
    s.bufZero := by
  cases h
  · exact ⟨hh, ho⟩
  · exact ⟨ho, hh⟩

theorem State.bufZero.congr {s t : State} (hz : s.bufZero) (hb : t.buf = s.buf) : t.bufZero :=
  ⟨(State.half_congr hb _).trans (hz.half _), (State.half_congr hb _).trans (hz.half _)⟩

theorem State.nextHalf_congr {s t : State} (h : t.encSteps = s.encSteps) : t.nextHalf = s.nextHalf :=
  congrArg Half.ofSlot h

/-- The halves alternate with the encoder steps (R217). -/
theorem encoderStep_nextHalf {h : Half} {s t : State} (hs : encoderStep h s = .next t) :
    t.nextHalf = s.nextHalf.other := by
  cases encoderStep_frame hs
  exact Half.ofSlot_succ _

theorem ZeroHalves.of_bufZero {s : State} (hz : s.bufZero) : ZeroHalves s :=
  ⟨fun _ => hz, fun _ _ => hz, fun _ _ => hz, fun _ _ => hz.half _⟩

theorem ZeroHalves.congr {s t : State} (hi : ZeroHalves s) (hp : t.position = s.position) (hb : t.buf = s.buf)
    (he : t.encSteps = s.encSteps) : ZeroHalves t := by
  simp only [State.position, Prod.mk.injEq] at hp
  obtain ⟨hst, hc, _, hz⟩ := hp
  constructor
  · exact fun h => (hi.idle_zero (hst ▸ h)).congr hb
  · exact fun h h2 => (hi.reset_zero (hst ▸ h) (hz ▸ h2)).congr hb
  · exact fun h h0 => (hi.data_zero (hst ▸ h) (hc ▸ h0)).congr hb
  · intro h h1
    rw [State.nextHalf_congr he, State.half_congr hb]
    exact hi.half_zero (hst ▸ h) (hz ▸ h1)

/-- The two zero-fill steps of a RESET visit zero one half each (R131). -/
theorem ZeroHalves.zeroFill {s t : State} (hi : ZeroHalves s) (hst : s.encState = .reset) (hz : s.zhw < 2)
    (hs : encoderStep s.nextHalf s = .next t) : ZeroHalves t := by
  have hother := encoderStep_half_other hs
  have hnext := encoderStep_nextHalf hs
  rw [encoderStep_zeroFill _ hst hz] at hs
  injection hs with e
  have hst' : t.encState = .reset := by simpa [← e] using hst
  have hz' : t.zhw = s.zhw + 1 := by simp [← e]
  have hzero : t.half s.nextHalf = zeroHalf := by simp [← e, State.half]
  obtain hz | hz : s.zhw = 0 ∨ s.zhw = 1 := by omega
  · have hz1 : t.zhw = 1 := by simp [hz', hz]
    refine ⟨by simp [hst'], by simp [hz1], by simp [hst'], fun _ _ => ?_⟩
    rwa [hnext, Half.other_other]
  · exact .of_bufZero (State.bufZero_of_halves _ hzero (hother.trans (hi.half_zero hst hz)))

/-- In DATA nothing is claimed of the halves but at the first LED, and a DATA step leads to another LED or to the start
of RESET (R136, R137). -/
theorem ZeroHalves.dataRow {s : State} (h : Half) (hst : s.encState = .data)
    (hc : s.cursor.toNat < s.ledCount.toNat) : ZeroHalves (dataRow h s) := by
  rcases dataRow_cases h s with ⟨_, e⟩ | ⟨_, e⟩ <;> rw [e]
  · constructor <;> simp [endPassRow]
  · have hdata : (nextLedRow (encodeRow h s)).encState = .data := hst
    have hne : (nextLedRow (encodeRow h s)).cursor ≠ 0 := fun h0 => by
      have hnext : (nextLedRow (encodeRow h s)).cursor.toNat = s.cursor.toNat + 1 := toNat_add_one hc
      simp [h0] at hnext
    exact ⟨by simp [hdata], by simp [hdata], fun _ h0 => absurd h0 hne, by simp [hdata]⟩

/-- An encoder step on the half whose turn it is keeps the zero halves (R163): the zero-fill steps make them, and the
other steps of RESET and IDLE write nothing. -/
theorem ZeroHalves.encoderStep {s t : State} (hi : ZeroHalves s) (hs : encoderStep s.nextHalf s = .next t) :
    ZeroHalves t := by
  rcases encoderStep_cases hs with ⟨hst, _⟩ | ⟨hst, rfl⟩ | ⟨hst, hc, rfl⟩
  · rcases resetRow_cases s.nextHalf s with ⟨hz, _⟩ | ⟨hz, hc, _⟩ | ⟨hz, hc, _⟩
    · exact hi.zeroFill hst hz hs
    · rw [encoderStep_count _ hst hz hc] at hs
      cases hs
      exact .of_bufZero ((hi.reset_zero hst hz).congr (by simp))
    · rw [encoderStep_endReset _ hst hz hc] at hs
      cases hs
      exact .of_bufZero ((hi.reset_zero hst hz).congr (by simp))
  · exact .of_bufZero ((hi.idle_zero hst).congr (by simp))
  · have hrow : ZeroHalves (Machine.dataRow s.nextHalf s.enterEncoder) := .dataRow _ hst hc
    exact hrow.congr (by simp [State.position]) (by simp) (by simp)

/-! ### Strict alternation (R217) -/

/-- With the deadline met: no fault, and slots, encoder steps, trace and halves in step (R212, R217). -/
structure Alternation (s : State) : Prop where
  no_faults : s.faults = []
  current_clear : s.pending s.curHalf = false
  slots : s.slot = s.encSteps + (if s.pending s.curHalf.other then 1 else 0)
  current_half : s.curHalf = Half.ofSlot s.slot
  trace_length : s.trace.length = s.slot + 1

theorem deadlineInv_iff {s : State} : DeadlineInv s ↔ Alternation s ∧ ZeroHalves s :=
  ⟨fun h => ⟨{ h with }, { h with }⟩, fun ⟨h, h'⟩ => { h, h' with }⟩

/-- The half of a pending event is the one whose turn it is. -/
theorem Alternation.eq_nextHalf {s : State} {h : Half} (hi : Alternation s) (hp : s.pending h = true) :
    h = s.curHalf.other ∧ h = s.nextHalf := by
  obtain rfl | rfl := Half.eq_or_eq_other s.curHalf h
  · simp [hi.current_clear] at hp
  · have hslot : s.slot = s.encSteps + 1 := by simpa [hp] using hi.slots
    refine ⟨rfl, ?_⟩
    rw [hi.current_half, hslot, Half.ofSlot_succ, Half.other_other, State.nextHalf]

/-- Servicing the pending event makes the encoder's steps as many as the slots ended. -/
theorem Alternation.encoderStep {s t : State} {h : Half} (hi : Alternation s) (hp : s.pending h = true)
    (hs : encoderStep h s = .next t) : Alternation t := by
  have hpend := encoderStep_pending hs
  obtain ⟨rfl, -⟩ := hi.eq_nextHalf hp
  cases encoderStep_frame hs
  exact
    { no_faults := hi.no_faults
      current_clear := by simpa [hpend] using hi.current_clear
      slots := by simpa [hpend, hp] using hi.slots
      current_half := hi.current_half
      trace_length := hi.trace_length }

/-- A slot that ends with no event pending leaves one pending, for the half just read (R212). -/
theorem Alternation.slotEnd {s : State} (hi : Alternation s) (ho : s.pending s.curHalf.other = false) :
    Alternation (slotEnd s) where
  no_faults := (slotEnd_faults_of_clear hi.current_clear ho).trans hi.no_faults
  current_clear := by simpa using ho
  slots := by simpa [ho] using hi.slots
  current_half := by simp [Half.ofSlot_succ, ← hi.current_half]
  trace_length := by simpa using hi.trace_length

theorem Alternation.stepEffect {s t : State} {m : Move} (hi : Alternation s) (hl : s.life = .running)
    (hd : s.cfg.deadlineMet = true) (e : StepEffect s m t) : Alternation t := by
  cases e with
  | waits => exact hi
  | endsSlot _ he => exact hi.slotEnd (by simpa [streamEnabled, hd] using (Bool.and_eq_true_iff.mp he).2)
  | services h _ _ hh ht => exact hi.encoderStep (State.servicedHalf_pending hh) ht
  | answers _ _ _ hsame => cases hsame; exact { hi with }
  | writesByte => exact { hi with }
  | finishes => exact { hi with }
  | begins => exact { hi with }
  | initialises _ _ _ _ _ hu => simp [hl] at hu

theorem ZeroHalves.stepEffect {s t : State} {m : Move} (hi : ZeroHalves s) (ha : Alternation s)
    (hl : s.life = .running) (e : StepEffect s m t) : ZeroHalves t := by
  by_cases hm : m = .encoder
  · subst hm
    cases e with
    | services h _ _ hh ht =>
      obtain ⟨-, rfl⟩ := ha.eq_nextHalf (State.servicedHalf_pending hh)
      exact hi.encoderStep ht
    | waits => exact hi
    | endsSlot hm => cases hm
    | writesByte _ _ _ _ hm => cases hm
    | finishes _ _ hm => cases hm
    | answers _ hm => cases hm
    | begins _ _ _ _ hm => cases hm
    | initialises _ _ _ hm => cases hm
  · obtain ⟨hp, hb, _⟩ := e.sequencer_eq hl hm
    exact hi.congr hp hb (e.encSteps_eq hm)

/-! ### Every step keeps the invariant -/

/-- A successful `INIT` starts slot 0 on a zero half (R190, R211). -/
theorem DeadlineInv.initialise {s : State} (hu : UninitInv s) (count : BitVec 32) :
    DeadlineInv (initialise count s) :=
  deadlineInv_iff.mpr
    ⟨⟨hu.no_faults, rfl, (congrArg (· + 0) hu.no_steps).symm, rfl, by simp [hu.no_trace]⟩, .of_bufZero hu.buf_zero⟩

/-- The invariants say nothing of the host port and of the choices. -/
theorem SameBlock.safeInv {s t : State} (e : SameBlock s t) (h : SafeInv s) : SafeInv t := by
  refine ⟨e.inv h.inv, fun hl hd => ?_⟩
  cases e
  exact { h.deadline hl hd with }

theorem SafeInv.stepEffect {s t : State} {m : Move} (hi : SafeInv s) (e : StepEffect s m t) : SafeInv t := by
  refine ⟨hi.inv.stepEffect e, fun hl hd => ?_⟩
  obtain ⟨hu, u, count, hsame, rfl⟩ | ⟨hl', hc'⟩ := e.initialises_or_life_eq
  · exact .initialise ((hsame.inv hi.inv).uninit (hsame.life_eq.trans hu)) count
  · rw [hl'] at hl
    rw [hc'] at hd
    obtain ⟨ha, hz⟩ := deadlineInv_iff.mp (hi.deadline hl hd)
    exact deadlineInv_iff.mpr ⟨ha.stepEffect hl hd e, hz.stepEffect ha hl e⟩

end Sys2Proof.Machine

open Sys2Proof Sys2Proof.Machine

/-- Settles O36: every step of every agent keeps the invariants, case by case of what a step can do. -/
theorem stepKeepsTheDeadlineInvariant : Obligations.StepKeepsTheDeadlineInvariant := fun s _ hi hs =>
  ((SameBlock.takeMove s).safeInv hi).stepEffect (step_effect hs)

end

section
/-! PROOFS. How the sequencer leaves its states, and that no step of a good state stops the machine (O32, O37). -/

namespace Sys2Proof.Machine

/-! ### How the sequencer leaves its states -/

/-- DATA is left for the start of RESET only (R136). -/
theorem encoderStep_of_data {h : Half} {s t : State} (hst : s.encState = .data) (hs : encoderStep h s = .next t) :
    t.encState = .data ∨ t.position = (.reset, 0, 0, 0) := by
  rcases encoderStep_cases hs with ⟨he, _⟩ | ⟨he, _⟩ | ⟨_, _, rfl⟩
  · simp [hst] at he
  · simp [hst] at he
  · rcases dataRow_cases h s.enterEncoder with ⟨_, e⟩ | ⟨_, e⟩ <;> rw [e]
    · exact .inr (by simp [State.position, endPassRow])
    · exact .inl ((State.leaveEncoder_encState _ _).trans hst)

/-- IDLE is left for DATA only (R134). -/
theorem encoderStep_of_idle {h : Half} {s t : State} (hst : s.encState = .idle) (hs : encoderStep h s = .next t) :
    t.encState = .idle ∨ t.encState = .data := by
  rw [encoderStep_idle_eq h hst] at hs
  cases hs
  cases s.dirty
  · exact .inl rfl
  · exact .inr rfl

/-- RESET is left by its end row only (R133). -/
theorem encoderStep_leaves_reset {h : Half} {s t : State} (hst : s.encState = .reset) (hs : encoderStep h s = .next t)
    (hne : t.encState ≠ .reset) : s.zhw = 2 ∧ s.cfg.resetCycles ≤ s.resetCount ∧ t.cursor = 0 := by
  rcases resetRow_cases h s with ⟨hz, _⟩ | ⟨hz, hc, _⟩ | ⟨hz, hc, _⟩
  · rw [encoderStep_zeroFill h hst hz] at hs
    cases hs
    exact absurd ((State.setPending_encState _ _ _).trans hst) hne
  · rw [encoderStep_count h hst hz hc] at hs
    cases hs
    exact absurd ((State.setPending_encState _ _ _).trans hst) hne
  · rw [encoderStep_endReset h hst hz hc] at hs
    cases hs
    exact ⟨hz, hc, rfl⟩

/-- In a running block a step leaves the sequencer as it was, or is an encoder step (R22). -/
theorem step_position_eq_or_encoderStep {s t : State} (hl : s.life = .running) (hs : step s = .next t) :
    t.position = s.position ∨ (s.nextMove = .encoder ∧ ∃ h, encoderStep h s.takeMove = .next t) := by
  have htake : s.takeMove.position = s.position := by simp [State.position]
  by_cases hm : s.nextMove = .encoder
  · rw [step, hm] at hs
    rcases encoderAgentStep_cases hs with ⟨_, rfl⟩ | ⟨h, _, _, hstep⟩
    · exact .inl htake
    · exact .inr ⟨hm, h, hstep⟩
  · exact .inl (((step_effect hs).sequencer_eq (by simpa) hm).1.trans htake)

/-! ### No step of a good state stops -/

theorem encoderAgentStep_next {s : State} (hi : Inv s) : ∃ t, encoderAgentStep s = .next t := by
  unfold encoderAgentStep encoderTurn
  split
  · rename_i h ht
    rw [exec_ofEvent]
    have hl : s.life = .running := by
      by_contra hl
      simp [hl] at ht
    exact encoderStep_next fun _ => (hi.encoder hl).cursor_lt_count
  · exact ⟨_, rfl⟩

theorem foregroundStep_next {s : State} (pick : Nat) (hi : Inv s) : ∃ t, foregroundStep pick s = .next t := by
  unfold foregroundStep
  split
  · exact microStep_next ((hi.store (hi.running_of_command ‹_›)).writes_within _ ‹_›)
  · split
    · exact ⟨_, rfl⟩
    · exact issue_next _ _

theorem agentStep_next {s : State} (m : Move) (hi : Inv s) : ∃ t, agentStep m s = .next t := by
  cases m with
  | stream => exact ⟨_, rfl⟩
  | encoder => exact encoderAgentStep_next hi
  | foreground pick => exact foregroundStep_next pick hi

end Sys2Proof.Machine

open Sys2Proof Sys2Proof.Machine

/-- Settles O32: only an encoder step moves the sequencer, and each row says where it leads. -/
theorem resetIsNeverSkipped : Obligations.ResetIsNeverSkipped := by
  intro s s' hl hs
  obtain hp | ⟨hm, h, hstep⟩ := step_position_eq_or_encoderStep hl hs
  · have he : s'.encState = s.encState := congrArg Prod.fst hp
    simp +contextual [he]
  · refine ⟨fun he => encoderStep_of_data (by simpa) hstep, fun he => encoderStep_of_idle (by simpa) hstep,
      fun he hne => ⟨hm, ?_⟩⟩
    simpa using encoderStep_leaves_reset (by simpa) hstep hne

/-- Settles O37: the cursor and every pending write are in the store, so no agent stops. -/
theorem stepNeverStopsARun : Obligations.StepNeverStopsARun := fun s hi =>
  agentStep_next s.nextMove ((SameBlock.takeMove s).inv hi)

end

section
/-! PROOFS. Runs of encoder steps on alternate halves: a RESET visit, a pass, and one after the other (O38 to O41). -/

namespace Sys2Proof

/-- The half of the encoder step that comes `k` steps after one on half `h`, where halves alternate (R217). -/
def Half.afterSteps (h : Half) (k : Nat) : Half := if k % 2 = 0 then h else h.other

@[simp] theorem Half.afterSteps_zero (h : Half) : h.afterSteps 0 = h := rfl

theorem Half.afterSteps_succ (h : Half) (k : Nat) : h.afterSteps (k + 1) = h.other.afterSteps k := by
  unfold Half.afterSteps
  rcases Nat.mod_two_eq_zero_or_one k with hk | hk <;> simp [Nat.add_mod, hk]

namespace Machine

/-! ### Runs of encoder steps -/

theorem runEncoder_succ {h : Half} {s u : State} (hs : encoderStep h s = .next u) (k : Nat) :
    runEncoder (k + 1) h s = runEncoder k h.other u := by
  rw [runEncoder, exec_ofEvent, hs]

theorem runEncoder_succ_cases {k : Nat} {h : Half} {s t : State} (hs : runEncoder (k + 1) h s = .next t) :
    ∃ u, encoderStep h s = .next u ∧ runEncoder k h.other u = .next t := by
  rw [runEncoder, exec_ofEvent] at hs
  split at hs
  · exact ⟨_, ‹_›, hs⟩
  · cases hs
  · cases hs

/-- A run of `j + k` encoder steps is one of `j` and then one of `k`. -/
theorem runEncoder_add {j : Nat} {h : Half} {s t : State} (hs : runEncoder j h s = .next t) (k : Nat) :
    runEncoder (j + k) h s = runEncoder k (h.afterSteps j) t := by
  induction j generalizing h s with
  | zero => cases hs; rw [Nat.zero_add, Half.afterSteps_zero]
  | succ j ih =>
    obtain ⟨u, hu, hrun⟩ := runEncoder_succ_cases hs
    rw [Nat.add_right_comm, runEncoder_succ hu, ih hrun, Half.afterSteps_succ]

/-- The last step of a run. -/
theorem runEncoder_snoc {k : Nat} {h : Half} {s t u : State} (hs : runEncoder k h s = .next t)
    (hu : encoderStep (h.afterSteps k) t = .next u) : runEncoder (k + 1) h s = .next u := by
  rw [runEncoder_add hs, runEncoder_succ hu, runEncoder]

/-- What `k` encoder steps leave: the store, `N` and the parameters as they were, and `k` steps counted. -/
theorem runEncoder_frame {k : Nat} {h : Half} {s t : State} (hs : runEncoder k h s = .next t) :
    t.led = s.led ∧ t.ledCount = s.ledCount ∧ t.cfg = s.cfg ∧ t.encSteps = s.encSteps + k := by
  induction k generalizing h s with
  | zero => cases hs; exact ⟨rfl, rfl, rfl, rfl⟩
  | succ k ih =>
    obtain ⟨u, hu, hrun⟩ := runEncoder_succ_cases hs
    obtain ⟨hled, hn, hc, hk⟩ := ih hrun
    cases encoderStep_frame hu
    exact ⟨hled, hn, hc, hk.trans (by simp only; omega)⟩

/-! ### A RESET visit (R164, R165) -/

section

variable {s : State} (h : Half) (hst : s.encState = .reset) (h0 : s.resetCount = 0)

include hst h0

/-- With both halves zero, RESET counts up to `RESET_CYCLES` and writes nothing (R132). -/
theorem runEncoder_counts (hz : s.zhw = 2) {k : Nat} (hk : k ≤ s.cfg.resetCycles) :
    ∃ t, runEncoder k h s = .next t ∧ t.encState = .reset ∧ t.zhw = 2 ∧ t.resetCount = k ∧ t.dirty = s.dirty ∧
      t.buf = s.buf := by
  induction k with
  | zero => exact ⟨s, rfl, hst, hz, h0, rfl, rfl⟩
  | succ k ih =>
    obtain ⟨t, hrun, hst', hz', hc', hd', hb'⟩ := ih (Nat.le_of_succ_le hk)
    obtain ⟨-, -, hcfg, -⟩ := runEncoder_frame hrun
    refine ⟨_, runEncoder_snoc hrun (encoderStep_count _ hst' hz' ?_), ?_⟩
    · rw [hcfg, hc']
      exact hk
    · simp [hst', hz', hc', hd', hb']

/-- The end of RESET goes to DATA where `DIRTY` was set and to IDLE where it was not (R133). -/
theorem runEncoder_counts_end (hz : s.zhw = 2) :
    ∃ t, runEncoder (s.cfg.resetCycles + 1) h s = .next t ∧ t.cursor = 0 ∧ t.dirty = false ∧
      t.encState = if s.dirty then .data else .idle := by
  obtain ⟨t, hrun, hst', hz', hc', hd', -⟩ := runEncoder_counts h hst h0 hz (Nat.le_refl _)
  obtain ⟨-, -, hcfg, -⟩ := runEncoder_frame hrun
  refine ⟨_, runEncoder_snoc hrun (encoderStep_endReset _ hst' hz' ?_), rfl, rfl, by rw [hd']⟩
  rw [hcfg, hc']

/-- A RESET visit after a pass begins with two steps that zero one half each (R131). -/
theorem encoderStep_zeroFills (hz : s.zhw = 0) :
    ∃ t u, encoderStep h s = .next t ∧ encoderStep h.other t = .next u ∧
      (t.encState = .reset ∧ t.zhw = 1 ∧ t.resetCount = 0 ∧ t.dirty = s.dirty) ∧
      (u.encState = .reset ∧ u.zhw = 2 ∧ u.resetCount = 0 ∧ u.dirty = s.dirty ∧ u.cfg = s.cfg ∧ u.bufZero) := by
  refine ⟨_, _, encoderStep_zeroFill h hst (by simp [hz]), encoderStep_zeroFill h.other ?_ ?_, ?_, ?_⟩
  · simpa using hst
  · simp [hz]
  · simp [hst, hz, h0]
  · refine ⟨by simpa using hst, by simp [hz], by simpa using h0, by simp, by simp, ?_⟩
    refine State.bufZero_of_halves h.other (halfOf_setHalf_same _ _ _) ?_
    rw [State.half, halfOf_setHalf_other, Half.other_other]
    exact halfOf_setHalf_same _ _ _

end

/-! ### A pass (R164, R167) -/

@[simp] theorem dataRow_wlog (h : Half) (s : State) :
    (dataRow h s).wlog = s.wlog ++ [⟨s.encSteps, h, .led s.cursor.toNat, s.ledHalf s.cursor.toNat⟩] := by
  rcases dataRow_cases h s with ⟨_, e⟩ | ⟨_, e⟩ <;> rw [e] <;> rfl

/-- A DATA step writes the LED at the cursor to the half of its event and logs it, and leaves the other half (R135). -/
theorem encoderStep_data_writes {s : State} (h : Half) (hst : s.encState = .data)
    (hc : s.cursor.toNat < s.ledCount.toNat) :
    ∃ t, encoderStep h s = .next t ∧ t.half h = s.ledHalf s.cursor.toNat ∧ t.half h.other = s.half h.other ∧
      t.wlog = s.wlog ++ [⟨s.encSteps + 1, h, .led s.cursor.toNat, s.ledHalf s.cursor.toNat⟩] := by
  have hs := encoderStep_data h hst hc
  refine ⟨_, hs, ?_, encoderStep_half_other hs, ?_⟩
  · rw [State.half_congr (State.leaveEncoder_buf _ _)]
    exact dataRow_half h s.enterEncoder
  · rw [State.leaveEncoder_wlog, dataRow_wlog]
    rfl

/-- After `k` steps of a pass the first `k` LEDs are logged, as the store was at its start, and the encoder is at the
next LED or, after the last, at the start of RESET. -/
theorem runEncoder_pass {s : State} (h : Half) (hst : s.encState = .data) (hc : s.cursor = 0)
    (hn : 0 < s.ledCount.toNat) {k : Nat} (hk : k ≤ s.ledCount.toNat) :
    ∃ t, runEncoder k h s = .next t ∧ t.dirty = s.dirty ∧
      t.wlog = s.wlog ++ (List.range k).map (fun i =>
        ⟨s.encSteps + i + 1, h.afterSteps i, .led i, s.ledHalf i⟩) ∧
      (k < s.ledCount.toNat → t.encState = .data ∧ t.cursor.toNat = k) ∧
      (k = s.ledCount.toNat → t.position = (.reset, 0, 0, 0)) := by
  induction k with
  | zero => exact ⟨s, rfl, rfl, by simp, fun _ => ⟨hst, by simp [hc]⟩, fun h0 => absurd h0 (Nat.ne_of_lt hn)⟩
  | succ k ih =>
    obtain ⟨t, hrun, hd, hlog, hdata, -⟩ := ih (Nat.le_of_succ_le hk)
    obtain ⟨hst', hc'⟩ := hdata hk
    obtain ⟨hled, hn', hcfg, hsteps⟩ := runEncoder_frame hrun
    have hval : t.ledHalf k = s.ledHalf k := by simp only [State.ledHalf, State.readLed, hled, hcfg]
    have hlog' : t.wlog ++ [⟨t.encSteps + 1, h.afterSteps k, .led t.cursor.toNat, t.ledHalf t.cursor.toNat⟩] =
        s.wlog ++ (List.range (k + 1)).map (fun i =>
          ⟨s.encSteps + i + 1, h.afterSteps i, .led i, s.ledHalf i⟩) := by
      rw [hc', hval, hsteps, hlog, List.range_succ, List.map_append, List.append_assoc]
      rfl
    obtain hlast | hnext := Nat.eq_or_lt_of_le hk
    · exact ⟨_, runEncoder_snoc hrun (encoderStep_lastLed _ hst' (by rw [hc', hn', hlast])), by simpa, hlog',
        fun hlt => absurd hlast (Nat.ne_of_lt hlt), fun _ => rfl⟩
    · have hlt : t.cursor.toNat < t.ledCount.toNat := by rw [hc', hn']; exact hk
      exact ⟨_, runEncoder_snoc hrun (encoderStep_nextLed _ hst' (by rw [hc', hn']; exact hnext)), by simpa, hlog',
        fun _ => ⟨by simpa, (toNat_add_one hlt).trans (by rw [hc'])⟩, fun hlast => absurd hlast (Nat.ne_of_lt hnext)⟩

end Machine
end Sys2Proof

open Sys2Proof Sys2Proof.Machine

/-- Settles O38: a visit after a pass is two zero-fill steps and then what the first visit after `INIT` is. -/
theorem resetVisitTakesItsSteps : Obligations.ResetVisitTakesItsSteps := by
  refine fun h s hst h0 => ⟨fun hz => ?_, fun hz => ⟨fun k hk => runEncoder_counts h hst h0 hz hk,
    runEncoder_counts_end h hst h0 hz⟩⟩
  obtain ⟨t, u, ht, hu, ⟨hst1, hz1, hc1, hd1⟩, hst2, hz2, hc2, hd2, hcfg, hzero⟩ := encoderStep_zeroFills h hst h0 hz
  have hfill (k : Nat) : runEncoder (k + 2) h s = runEncoder k h u := by
    rw [runEncoder_succ ht, runEncoder_succ hu, Half.other_other]
  refine ⟨fun k hk => ?_, ?_⟩
  · match k with
    | 0 => exact ⟨s, rfl, hst, by simp [hz], h0, rfl, by simp⟩
    | 1 => exact ⟨t, by rw [runEncoder_succ ht]; rfl, hst1, by simp [hz1], hc1, hd1, by simp⟩
    | k + 2 =>
      obtain ⟨v, hv, hst3, hz3, hc3, hd3, hb3⟩ := runEncoder_counts h hst2 hc2 hz2 (k := k) (by rw [hcfg]; omega)
      exact ⟨v, (hfill k).trans hv, hst3, by simp [hz3], hc3, hd3.trans hd2, fun _ => hzero.congr hb3⟩
  · rw [← hd2, ← hcfg]
    exact (hfill _).symm ▸ runEncoder_counts_end h hst2 hc2 hz2

/-- Settles O39: by induction on the steps of the pass. -/
theorem passEncodesEveryLedInOrder : Obligations.PassEncodesEveryLedInOrder := by
  intro h s hst hc hn k hk
  obtain ⟨t, hrun, hd, hlog, hdata, hend⟩ := runEncoder_pass h hst hc hn hk
  refine ⟨t, hrun, (runEncoder_frame hrun).1, hd, ?_, hdata, hend⟩
  simpa only [Half.afterSteps, State.ledHalf, rgbHalf] using hlog

/-- Settles O40: a RESET visit that ends in DATA, and then a pass. -/
theorem fullCycleTakesItsSteps : Obligations.FullCycleTakesItsSteps := by
  intro h s hp hd hn
  obtain ⟨hst, -, h0, hz⟩ : s.encState = .reset ∧ s.cursor = 0 ∧ s.resetCount = 0 ∧ s.zhw = 0 := by
    simpa [State.position] using hp
  obtain ⟨t, hreset, hc, hd', hst'⟩ := ((resetVisitTakesItsSteps h s hst h0).1 hz).2
  obtain ⟨hled, hn', -, -⟩ := runEncoder_frame hreset
  obtain ⟨u, hpass, hd'', -, -, hend⟩ := runEncoder_pass (h.afterSteps (s.cfg.resetCycles + 3))
    (hst'.trans (by simp [hd])) hc (hn'.symm ▸ hn) (Nat.le_refl _)
  refine ⟨u, ?_, hend rfl, hd''.trans hd', (runEncoder_frame hpass).1.trans hled⟩
  rw [runEncoder_add hreset, ← hn', hpass]

/-- Settles O41: the step in IDLE only enters DATA, and the step in DATA writes the LED at the cursor. -/
theorem idleUpdateIsWrittenTwoStepsLater : Obligations.IdleUpdateIsWrittenTwoStepsLater := by
  intro h s hst hd hc hn
  have hidle := encoderStep_idle_eq h hst
  simp only [hd, if_true] at hidle
  obtain ⟨t, ht, hwritten, hkept, hlog⟩ := encoderStep_data_writes h.other
    (s := { s.setPending h false with encSteps := s.encSteps + 1, dirty := false, encState := .data }) rfl
    (by simpa [hc] using hn)
  refine ⟨_, t, (exec_ofEvent _ _).trans hidle, (exec_ofEvent _ _).trans ht, rfl, rfl, by simp, by simp, ?_, ?_, ?_⟩
  · simpa [hc, State.ledHalf, State.readLed] using hwritten
  · simpa [State.half] using hkept
  · simpa [hc, State.ledHalf, State.readLed] using hlog

end

section
/-! PROOFS. The colour table: its entries are pulses, and for admitted parameters a pulse is never the low period
(O27, O28). -/

namespace Sys2Proof

theorem Params.tShort_bounds_of_admitted {p : Params} (hp : p.admitted = true) :
    0 < p.tShort.toNat ∧ p.tShort.toNat < p.tLong.toNat := by
  simp only [Params.admitted, Bool.and_eq_true, decide_eq_true_eq] at hp
  obtain ⟨⟨⟨⟨⟨⟨-, hshort⟩, hlong⟩, -⟩, -⟩, -⟩, -⟩ := hp
  exact ⟨hshort, hlong⟩

/-- Every index of a half is an element of one channel's entry of the table (R64). -/
theorem Channel.exists_index_add {k : Nat} (hk : k < 24) : ∃ (c : Channel) (j : Nat), j < 8 ∧ k = 8 * c.index + j := by
  obtain h | h | h : k / 8 = 0 ∨ k / 8 = 1 ∨ k / 8 = 2 := by omega
  · exact ⟨.r, k % 8, by omega, by simp only [Channel.index]; omega⟩
  · exact ⟨.g, k % 8, by omega, by simp only [Channel.index]; omega⟩
  · exact ⟨.b, k % 8, by omega, by simp only [Channel.index]; omega⟩

namespace Machine

/-- The low period is no pulse of admitted parameters (R172, R6). -/
theorem pulse_ne_zero {p : Params} (hp : p.admitted = true) (b : Bool) : pulse p b ≠ 0 := by
  obtain ⟨hshort, hlong⟩ := Params.tShort_bounds_of_admitted hp
  obtain e | e := pulse_cases p b
  · rw [e]; bv_omega
  · rw [e]; bv_omega

/-- Every value of an LED is the pulse of some bit of the store (R135, R170). -/
theorem State.exists_ledHalf_getElem (s : State) (i : Nat) {k : Nat} (hk : k < 24) :
    ∃ b, (s.ledHalf i)[k] = pulse s.cfg b := by
  obtain ⟨c, j, hj, rfl⟩ := Channel.exists_index_add hk
  exact ⟨_, s.ledHalf_getElem i c j hj⟩

/-- The half that a DATA step leaves at its event's half is the LED at the cursor (R135). -/
theorem encoderStep_half_of_data {h : Half} {s t : State} (hst : s.encState = .data)
    (hs : encoderStep h s = .next t) : t.half h = s.ledHalf s.cursor.toNat := by
  rcases encoderStep_cases hs with ⟨he, _⟩ | ⟨he, _⟩ | ⟨_, hc, _⟩
  · simp [hst] at he
  · simp [hst] at he
  · obtain ⟨u, hu, hhalf, -⟩ := encoderStep_data_writes h hst hc
    rw [hs] at hu
    cases hu
    exact hhalf

end Machine
end Sys2Proof

open Sys2Proof Sys2Proof.Machine

/-- Settles O27: the table holds the pulse of each bit of the byte. -/
theorem colourTableFollowsItsRule : Obligations.ColourTableFollowsItsRule := by
  intro p v k
  have hbit : v[7 - k.val]'(by omega) = v.getLsbD (7 - k) := (BitVec.getLsbD_eq_getElem _).symm
  rw [hbit]
  exact ct_getElem p v k k.isLt

/-- Settles O28: an entry of the table, and a value that a DATA step writes, is a pulse. -/
theorem noTableEntryIsZero : Obligations.NoTableEntryIsZero := by
  refine fun p hp => ⟨fun v k => ?_, fun h s t hcfg hst hs k => ?_⟩
  · have hk : (ct p v)[k] = pulse p (v.getLsbD (7 - k)) := ct_getElem p v k k.isLt
    exact hk ▸ ⟨pulse_cases p _, pulse_ne_zero hp _⟩
  · obtain rfl := hcfg
    rw [exec_ofEvent] at hs
    obtain ⟨b, hb⟩ := s.exists_ledHalf_getElem s.cursor.toNat k.isLt
    have hk : (t.half h)[k] = pulse s.cfg b := (congrArg (·[k]) (encoderStep_half_of_data hst hs)).trans hb
    exact hk ▸ ⟨pulse_cases s.cfg b, pulse_ne_zero hp b⟩

end

section
/-! PROOFS. What `INIT` does in each of its cases, and that no other step writes `N` (O12, O13). -/

namespace Sys2Proof.Machine

/-! ### The life, the parameters and `N` over a step -/

theorem SameBlock.cfg_eq {s t : State} (e : SameBlock s t) : t.cfg = s.cfg := by
  cases e; rfl

/-- A step that leaves the life leaves `N` (R24, R192). -/
theorem StepEffect.ledCount_eq_of_life_eq {s t : State} {m : Move} (e : StepEffect s m t) (hl : t.life = s.life) :
    t.ledCount = s.ledCount := by
  cases e with
  | initialises _ _ _ _ _ hu => simp [hu] at hl
  | services _ _ _ _ ht => cases encoderStep_frame ht; rfl
  | answers _ _ _ hsame => cases hsame; rfl
  | endsSlot => simp
  | waits => rfl
  | writesByte => rfl
  | finishes => rfl
  | begins => rfl

/-- What a step can do to the life, the parameters and `N` (R192): it starts an uninitialised block, or leaves the
life and `N`; the parameters it leaves in either case. -/
theorem step_life_ledCount_cases {s t : State} (hs : step s = .next t) :
    t.cfg = s.cfg ∧ ((s.life = .uninit ∧ t.life = .running) ∨ (t.life = s.life ∧ t.ledCount = s.ledCount)) := by
  have hsame := SameBlock.takeMove s
  have he := step_effect hs
  obtain ⟨hu, u, count, hsu, rfl⟩ | ⟨hl, hc⟩ := he.initialises_or_life_eq
  · exact ⟨hsu.cfg_eq.trans hsame.cfg_eq, .inl ⟨hsame.life_eq.symm.trans hu, rfl⟩⟩
  · exact ⟨hc.trans hsame.cfg_eq, .inr ⟨hl.trans hsame.life_eq, by simpa using he.ledCount_eq_of_life_eq hl⟩⟩

/-! ### The cases of `INIT` -/

theorem exec_init_of_running {s : State} (count : BitVec 32) (hl : s.life = .running) :
    exec (.init count) s = .next (s.refuse .reinit) := by
  simp [exec, execInit, hl]

theorem exec_init_zero {s : State} (hl : s.life = .uninit) : exec (.init 0) s = .next (s.refuse .zeroLeds) := by
  simp [exec, execInit, hl]

theorem exec_init_of_capacity_lt {s : State} {count : BitVec 32} (hl : s.life = .uninit) (hn : count ≠ 0)
    (hcap : s.cfg.ledCapacity < count.toNat) : exec (.init count) s = .next (s.returnStatus .allocFailure) := by
  rw [exec, execInit, if_neg (by simp [hl]), if_neg hn, if_neg (by omega)]

theorem exec_init_of_le_capacity {s : State} {count : BitVec 32} (hl : s.life = .uninit) (hn : count ≠ 0)
    (hcap : count.toNat ≤ s.cfg.ledCapacity) : exec (.init count) s = .next (allocate count s) := by
  rw [exec, execInit, if_neg (by simp [hl]), if_neg hn, if_pos hcap]

theorem allocate_of_draw_false {s : State} (count : BitVec 32) (hd : s.nextAlloc = false) :
    allocate count s = s.takeAlloc.returnStatus .allocFailure := by
  simp [allocate, hd]

theorem allocate_of_draw_true {s : State} (count : BitVec 32) (hd : s.nextAlloc = true) :
    allocate count s = initialise count s.takeAlloc := by
  simp [allocate, hd]

/-- The writes of a successful `INIT` after its draw (R190, R211): the first slot's snapshot is the half as it was
before, since the draw touches neither `TRACE` nor `BUF`. -/
theorem initialise_takeAlloc_eq (count : BitVec 32) (s : State) :
    initialise count s.takeAlloc =
      { s.takeAlloc with
        ledCount := count, led := [], encState := .reset, zhw := 2, resetCount := 0, cursor := 0, dirty := false
        life := .running, started := true, curHalf := .first, slot := 0, pending0 := false, pending1 := false
        trace := s.trace ++ [s.half .first], status := .ok } := by
  have hhalf : s.takeAlloc.half .first = s.half .first := State.half_congr (State.takeAlloc_buf s) .first
  rw [← hhalf, ← State.takeAlloc_trace s]
  rfl

end Sys2Proof.Machine

open Sys2Proof Sys2Proof.Machine

/-- Settles O13: only the start of an uninitialised block writes `N`. -/
theorem ledCountIsWrittenOnce : Obligations.LedCountIsWrittenOnce := by
  intro s s' hs
  obtain ⟨hcfg, ⟨hu, hr⟩ | ⟨hl, hn⟩⟩ := step_life_ledCount_cases hs
  · exact ⟨hcfg, fun h => by simp [hu] at h, fun h => by simp [hr] at h⟩
  · exact ⟨hcfg, fun h => ⟨hl.trans h, hn⟩, fun _ => hn⟩

/-- Settles O12, one equation of `INIT` for each of its cases. -/
theorem initFollowsItsRule : Obligations.InitFollowsItsRule := by
  refine fun count s => ⟨exec_init_of_running count, ?_, exec_init_of_capacity_lt, ?_, ?_⟩
  · rintro hl rfl
    exact exec_init_zero hl
  · intro hl hn hcap hd
    rw [exec_init_of_le_capacity hl hn hcap, allocate_of_draw_false count hd]
    rfl
  · intro hl hn hcap hd
    refine ⟨initialise count s.takeAlloc, ?_, initialise_takeAlloc_eq count s, fun _ _ => rfl, rfl⟩
    rw [exec_init_of_le_capacity hl hn hcap, allocate_of_draw_true count hd]

end

section
/-! PROOFS. The stream: the slot-end step with its frame, and what the canonical schedule of slot ends and encoder steps
puts on the wire (O29, O42, O43, O44). -/

namespace Sys2Proof.Machine

/-! ### The slot-end step (R212) -/

theorem streamEnabled_iff {s : State} :
    streamEnabled s = true ↔
      s.life = .running ∧ s.started = true ∧ (s.cfg.deadlineMet = true → s.pending s.curHalf.other = false) := by
  cases hd : s.cfg.deadlineMet <;> simp [streamEnabled, hd, and_assoc]

theorem streamStep_of_enabled {s : State} (h : streamEnabled s = true) : streamStep s = slotEnd s := if_pos h

theorem streamStep_of_not_enabled {s : State} (h : ¬ streamEnabled s = true) : streamStep s = s := if_neg h

theorem mem_checkOverrun_faults {s : State} {r : FaultRecord} :
    r ∈ (checkOverrun s).faults ↔
      r ∈ s.faults ∨ (s.pending s.curHalf = true ∧ r = ⟨.overrun, s.curHalf, s.slot⟩) := by
  cases hp : s.pending s.curHalf <;> simp [checkOverrun, hp]

theorem mem_checkUnderrun_faults {s : State} {r : FaultRecord} :
    r ∈ (checkUnderrun s).faults ↔
      r ∈ s.faults ∨ (s.pending s.curHalf.other = true ∧ r = ⟨.underrun, s.curHalf.other, s.slot + 1⟩) := by
  cases hp : s.pending s.curHalf.other <;> simp [checkUnderrun, hp]

/-- A slot end records a fault for each of the two events that is still pending, and no other (R212, R241). -/
theorem mem_slotEnd_faults {s : State} {r : FaultRecord} :
    r ∈ (slotEnd s).faults ↔
      r ∈ s.faults ∨ (s.pending s.curHalf = true ∧ r = ⟨.overrun, s.curHalf, s.slot⟩) ∨
        (s.pending s.curHalf.other = true ∧ r = ⟨.underrun, s.curHalf.other, s.slot + 1⟩) := by
  have hpend : (checkOverrun s).pending s.curHalf.other = s.pending s.curHalf.other :=
    State.pending_congr (checkOverrun_pending0 s) (checkOverrun_pending1 s) _
  rw [slotEnd, beginSlot, State.emit_faults]
  simp [mem_checkUnderrun_faults, mem_checkOverrun_faults, hpend, or_assoc]

/-- What a slot end leaves as it was (R212). -/
theorem slotEnd_eq_update (s : State) :
    slotEnd s =
      { s with pending0 := (slotEnd s).pending0, pending1 := (slotEnd s).pending1, faults := (slotEnd s).faults
               lastEvt := s.curHalf, curHalf := s.curHalf.other, slot := s.slot + 1
               trace := s.trace ++ [s.half s.curHalf.other] } := by
  simp [State.ext_iff]

/-! ### The canonical schedule (R216, 95_test_vectors.md) -/

/-- A running block whose stream is started and whose events are all serviced: between two rounds of the canonical
schedule. -/
structure Serviced (s : State) : Prop where
  running : s.life = .running
  started : s.started = true
  clear : ∀ h, s.pending h = false

theorem SafeInv.serviced {s : State} (hi : SafeInv s) (hl : s.life = .running) (h0 : s.pending0 = false)
    (h1 : s.pending1 = false) : Serviced s where
  running := hl
  started := hi.inv.started hl
  clear h := by cases h <;> assumption

theorem Serviced.streamStep {s : State} (hs : Serviced s) : streamStep s = slotEnd s :=
  streamStep_of_enabled (streamEnabled_iff.mpr ⟨hs.running, hs.started, fun _ => hs.clear _⟩)

/-- `CanonicalRound s t`: from `s` the canonical schedule ends a slot and services the half just read, which leads to
`t`. -/
def CanonicalRound (s t : State) : Prop := encoderStep s.curHalf (slotEnd s) = .next t

namespace CanonicalRound

variable {s t : State}

theorem runRounds_succ (h : CanonicalRound s t) (hs : Serviced s) (k : Nat) : runRounds (k + 1) s = runRounds k t := by
  have hturn : encoderTurn (slotEnd s) = some s.curHalf := by
    rw [encoderTurn, if_pos (by simpa using hs.running)]
    exact State.servicedHalf_of_pending (by simp) (by simp [hs.clear])
  have hstep : encoderAgentStep (slotEnd s) = .next t := by
    rw [encoderAgentStep, hturn]
    exact (exec_ofEvent _ _).trans h
  rw [runRounds, hs.streamStep, hstep]

theorem serviced (h : CanonicalRound s t) (hs : Serviced s) : Serviced t := by
  obtain ⟨hl, hst⟩ := encoderStep_life_started h
  refine ⟨hl.trans (by simpa using hs.running), hst.trans (by simpa using hs.started), fun k => ?_⟩
  rw [encoderStep_pending h, slotEnd_pending, hs.clear]
  by_cases hk : k = s.curHalf <;> simp [hk]

theorem curHalf (h : CanonicalRound s t) : t.curHalf = s.curHalf.other := by
  cases encoderStep_frame h
  simp

/-- The slot that begins in a round shows the half that the encoder does not write in it. -/
theorem trace (h : CanonicalRound s t) : t.trace = s.trace ++ [s.half s.curHalf.other] := by
  cases encoderStep_frame h
  simp

theorem half_other (h : CanonicalRound s t) : t.half s.curHalf.other = s.half s.curHalf.other :=
  (encoderStep_half_other h).trans (State.half_congr (slotEnd_buf s) _)

theorem ledCount (h : CanonicalRound s t) : t.ledCount = s.ledCount := by
  cases encoderStep_frame h
  simp

theorem cfg (h : CanonicalRound s t) : t.cfg = s.cfg := by
  cases encoderStep_frame h
  simp

theorem ledHalf (h : CanonicalRound s t) (i : Nat) : t.ledHalf i = s.ledHalf i := by
  cases encoderStep_frame h
  simp [State.ledHalf, State.readLed]

end CanonicalRound

/-! ### The latch period (R219) -/

/-- Both halves are zero and an update waits, with `j` counts of the RESET visit to come. -/
structure Latching (j : Nat) (s : State) : Prop where
  serviced : Serviced s
  in_reset : s.encState = .reset
  filled : s.zhw = 2
  counts_left : s.resetCount + j = s.cfg.resetCycles
  dirty : s.dirty = true
  buf_zero : s.bufZero
  count_pos : 0 < s.ledCount.toNat

/-- A round of the count (R132). -/
theorem Latching.exists_count {j : Nat} {s : State} (hs : Latching (j + 1) s) :
    ∃ t, CanonicalRound s t ∧ Latching j t := by
  have hleft := hs.counts_left
  have hround : CanonicalRound s _ := encoderStep_count s.curHalf (by simpa using hs.in_reset) (by simpa using hs.filled)
    (by simp; omega)
  refine ⟨_, hround, ?_⟩
  exact
    { serviced := hround.serviced hs.serviced
      in_reset := by simpa using hs.in_reset
      filled := by simpa using hs.filled
      counts_left := by simp; omega
      dirty := by simpa using hs.dirty
      buf_zero := hs.buf_zero.congr (by simp)
      count_pos := by simpa using hs.count_pos }

/-- The round of the end of RESET, which starts the pass that waits (R133). -/
theorem Latching.exists_endReset {s : State} (hs : Latching 0 s) :
    ∃ t, CanonicalRound s t ∧ t.bufZero ∧ t.encState = .data ∧ t.cursor = 0 := by
  have hleft := hs.counts_left
  have hround : CanonicalRound s _ := encoderStep_endReset s.curHalf (by simpa using hs.in_reset)
    (by simpa using hs.filled) (by simp; omega)
  exact ⟨_, hround, hs.buf_zero.congr (by simp), by simp [hs.dirty], rfl⟩

/-- The round of the first LED of a pass, and the slot after it, which shows the half that the round wrote. -/
theorem exists_firstLed {s : State} (hs : Serviced s) (hst : s.encState = .data) (hc : s.cursor = 0)
    (hn : 0 < s.ledCount.toNat) :
    ∃ t, CanonicalRound s t ∧ (streamStep t).trace = t.trace ++ [s.ledHalf 0] := by
  obtain ⟨t, ht, hwritten, -⟩ := encoderStep_data_writes (s := slotEnd s) s.curHalf (by simpa) (by simpa [hc])
  have hround : CanonicalRound s t := ht
  refine ⟨t, hround, ?_⟩
  rw [(hround.serviced hs).streamStep, slotEnd_trace, hround.curHalf, Half.other_other, hwritten]
  simp [hc, State.ledHalf, State.readLed]

/-- With `j` counts to come the canonical schedule shows `j + 2` zero slots and then LED 0. -/
theorem Latching.runRounds {j : Nat} {s : State} (hs : Latching j s) :
    ∃ t, runRounds (j + 2) s = .next t ∧
      (streamStep t).trace = s.trace ++ List.replicate (j + 2) zeroHalf ++ [s.ledHalf 0] := by
  induction j generalizing s with
  | zero =>
    obtain ⟨t, ht, hzero, hst, hc⟩ := hs.exists_endReset
    have hserv := ht.serviced hs.serviced
    obtain ⟨u, hu, hwire⟩ := exists_firstLed hserv hst hc (ht.ledCount ▸ hs.count_pos)
    refine ⟨u, ?_, ?_⟩
    · rw [ht.runRounds_succ hs.serviced, hu.runRounds_succ hserv, Machine.runRounds]
    · rw [hwire, hu.trace, ht.trace, ht.ledHalf, hs.buf_zero.half, hzero.half]
      simp
  | succ j ih =>
    obtain ⟨t, ht, hs'⟩ := hs.exists_count
    obtain ⟨u, hrun, hwire⟩ := ih hs'
    refine ⟨u, (ht.runRounds_succ hs.serviced _).trans hrun, ?_⟩
    rw [hwire, ht.trace, ht.ledHalf, hs.buf_zero.half, List.replicate_succ (n := j + 2)]
    simp

/-- The round of a zero-fill (R131). -/
theorem exists_zeroFill {s : State} (hst : s.encState = .reset) (hz : s.zhw < 2) :
    ∃ t, CanonicalRound s t ∧ t.half s.curHalf = zeroHalf ∧
      t.encState = .reset ∧ t.zhw = s.zhw + 1 ∧ t.resetCount = s.resetCount ∧ t.dirty = s.dirty :=
  ⟨_, encoderStep_zeroFill s.curHalf (by simpa using hst) (by simpa using hz), halfOf_setHalf_same _ _ _,
    by simpa using hst, by simp, by simp, by simp⟩

/-- The two rounds after a pass zero one half each, and the count is to come (R131). -/
theorem Serviced.exists_zeroFills {s : State} (hs : Serviced s) (hp : s.position = (.reset, 0, 0, 0))
    (hd : s.dirty = true) (hn : 0 < s.ledCount.toNat) :
    ∃ t u, CanonicalRound s t ∧ CanonicalRound t u ∧ t.half s.curHalf = zeroHalf ∧ Latching s.cfg.resetCycles u := by
  obtain ⟨hst, -, hc, hz⟩ : s.encState = .reset ∧ s.cursor = 0 ∧ s.resetCount = 0 ∧ s.zhw = 0 := by
    simpa [State.position] using hp
  obtain ⟨t, ht, hzero, hst', hz', hc', hd'⟩ := exists_zeroFill hst (by simp [hz])
  obtain ⟨u, hu, hzero', hst'', hz'', hc'', hd''⟩ := exists_zeroFill hst' (by simp [hz', hz])
  have hkept : u.half s.curHalf = zeroHalf := by simpa [ht.curHalf, hzero] using hu.half_other
  refine ⟨t, u, ht, hu, hzero, ?_⟩
  exact
    { serviced := hu.serviced (ht.serviced hs)
      in_reset := hst''
      filled := by simp [hz'', hz', hz]
      counts_left := by simp [hc'', hc', hc, hu.cfg, ht.cfg]
      dirty := by rw [hd'', hd', hd]
      buf_zero := State.bufZero_of_halves _ hkept (ht.curHalf ▸ hzero')
      count_pos := by rwa [hu.ledCount, ht.ledCount] }

end Sys2Proof.Machine

open Sys2Proof Sys2Proof.Machine

/-- Settles O29: the slot end where the stream is enabled, with its faults and its frame, and else no step. -/
theorem slotEndFollowsItsRule : Obligations.SlotEndFollowsItsRule := by
  refine fun s hl => ⟨fun hs hp => ?_, fun hno => ?_⟩
  · refine ⟨slotEnd s, s.half s.curHalf.other, ?_, fun k j hj => ?_, by simp, by simp,
      fun r => mem_slotEnd_faults, slotEnd_eq_update s⟩
    · rw [agentStep, streamStep_of_enabled (streamEnabled_iff.mpr ⟨hl, hs, hp⟩)]
    · simp only [Fin.getElem_fin, hj]
      exact halfOf_getElem s.buf s.curHalf.other k k.isLt
  · have hoff : ¬ streamEnabled s = true := by
      rw [streamEnabled_iff]
      rintro ⟨-, hs, hp⟩
      obtain h | ⟨hd, h⟩ := hno
      · simp [hs] at h
      · simp [hp hd] at h
    rw [agentStep, streamStep_of_not_enabled hoff]

/-- Settles O42: the slot that begins reads the half whose turn is not next, as it is now. -/
theorem stepIsOnTheWireInTheNextSlot : Obligations.StepIsOnTheWireInTheNextSlot := by
  intro s hi hl hd h0 h1 hk
  obtain ⟨ha, -⟩ := deadlineInv_iff.mp (hi.deadline hl hd)
  have hclear (h : Half) : s.pending h = false := by cases h <;> assumption
  have hslot : s.slot = s.encSteps := by simpa [hclear] using ha.slots
  have hhalf : s.curHalf.other = Half.ofSlot (s.encSteps - 1) := by
    obtain ⟨k, hk⟩ := Nat.exists_eq_add_of_le' hk
    rw [ha.current_half, hslot, hk, Half.ofSlot_succ, Half.other_other, Nat.add_sub_cancel]
  refine ⟨slotEnd s, ?_, by simp [hslot], ?_⟩
  · rw [agentStep, streamStep_of_enabled (streamEnabled_iff.mpr ⟨hl, hi.inv.started hl, fun _ => hclear _⟩)]
  · have hlen : s.trace.length = s.encSteps + 1 := by rw [ha.trace_length, hslot]
    rw [slotEnd_trace, ← hlen, List.getElem?_concat_length, hhalf]

/-- Settles O43: a round shows what was written before it, so the two zero-fills, the counts, the end of RESET and the
first DATA step show `RESET_CYCLES + 4` halves: the last of the pass and then zeros. -/
theorem latchPeriodIsZeroSlots : Obligations.LatchPeriodIsZeroSlots := by
  intro s hi hl _ hp hd h0 h1
  have hs := hi.serviced hl h0 h1
  obtain ⟨t, u, ht, hu, hzero, hlatch⟩ := hs.exists_zeroFills hp hd (hi.inv.encoder hl).count_pos
  obtain ⟨v, hrun, hwire⟩ := hlatch.runRounds
  refine ⟨v, ?_, ?_⟩
  · rw [ht.runRounds_succ hs, hu.runRounds_succ (ht.serviced hs), hrun]
  · rw [hwire, hu.trace, ht.trace, ht.curHalf, Half.other_other, hzero, hu.ledHalf, ht.ledHalf,
      List.replicate_succ (n := s.cfg.resetCycles + 2)]
    simp

/-- Settles O44: both halves are zero after `INIT`, so the counts, the end of RESET and the first DATA step show zeros,
as slot 0 did. -/
theorem firstLatchPeriodIsZeroSlots : Obligations.FirstLatchPeriodIsZeroSlots := by
  intro s hi hl hmet hst hz hc hd h0 h1 htrace
  have hlatch : Latching s.cfg.resetCycles s :=
    { serviced := hi.serviced hl h0 h1
      in_reset := hst
      filled := hz
      counts_left := by rw [hc, Nat.zero_add]
      dirty := hd
      buf_zero := (hi.deadline hl hmet).reset_zero hst hz
      count_pos := (hi.inv.encoder hl).count_pos }
  obtain ⟨t, hrun, hwire⟩ := hlatch.runRounds
  refine ⟨t, hrun, ?_⟩
  rw [hwire, htrace, List.replicate_succ (n := s.cfg.resetCycles + 2)]
  rfl

end

section
/-! PROOFS. Runs: every run is weakly fair, from every good state there is one, and in a running block it begins slot
after slot and takes encoder step after step (O46, O47, O48). -/

namespace Sys2Proof.Machine

/-! ### What the schedule's part of a step leaves as it was -/

@[simp] theorem State.pending_takeMove (s : State) (h : Half) : s.takeMove.pending h = s.pending h :=
  State.pending_congr (State.takeMove_pending0 s) (State.takeMove_pending1 s) h

@[simp] theorem streamEnabled_takeMove (s : State) : streamEnabled s.takeMove = streamEnabled s := by
  simp [streamEnabled]

/-! ### Progress of each agent over one step -/

/-- In the encoder's turn in a running block the step is the encoder step for the half serviced (R130). -/
theorem encoderStep_of_step {s t : State} {h : Half} (hs : step s = .next t) (hl : s.life = .running)
    (hm : s.nextMove = .encoder) (hh : s.servicedHalf = some h) : encoderStep h s.takeMove = .next t := by
  rwa [step_services hm hl hh, exec_ofEvent] at hs

theorem encoderStep_encSteps {h : Half} {s t : State} (hs : encoderStep h s = .next t) :
    t.encSteps = s.encSteps + 1 := by
  cases encoderStep_frame hs; rfl

/-- In the stream's turn, where it is enabled, the step is the slot end (R212). -/
theorem eq_slotEnd_of_step {s t : State} (hs : step s = .next t) (hm : s.nextMove = .stream)
    (he : streamEnabled s = true) : t = slotEnd s.takeMove := by
  rw [step, hm, agentStep, streamStep_of_enabled (by simpa)] at hs
  cases hs
  rfl

/-- A running block stays one (R23). -/
theorem running_of_step {s t : State} (hs : step s = .next t) (hl : s.life = .running) : t.life = .running := by
  obtain ⟨-, ⟨hu, -⟩ | ⟨he, -⟩⟩ := step_life_ledCount_cases hs
  · simp [hl] at hu
  · exact he.trans hl

/-- In a running block an event stays pending until an encoder step services it (R138). -/
theorem StepEffect.services_or_pending {s t : State} {m : Move} {h : Half} (e : StepEffect s m t)
    (hl : s.life = .running) (hp : s.pending h = true) :
    (m = .encoder ∧ s.servicedHalf = some h) ∨ t.pending h = true := by
  cases e with
  | services k hm _ hh ht =>
    obtain rfl | hne := eq_or_ne h k
    · exact .inl ⟨hm, hh⟩
    · exact .inr (by rw [encoderStep_pending ht, if_neg hne, hp])
  | endsSlot => exact .inr (by simp [hp])
  | answers _ _ _ hsame => cases hsame; exact .inr hp
  | waits => exact .inr hp
  | writesByte => exact .inr hp
  | finishes => exact .inr hp
  | begins => exact .inr hp
  | initialises _ _ _ _ _ hu => simp [hl] at hu

/-- In a running block only a slot end moves the stream to another half and raises an event (R212). -/
theorem StepEffect.endsSlot_or_curHalf_eq {s t : State} {m : Move} (e : StepEffect s m t) (hl : s.life = .running) :
    (m = .stream ∧ streamEnabled s = true) ∨
      (t.curHalf = s.curHalf ∧ ∀ h, s.pending h = false → t.pending h = false) := by
  cases e with
  | endsSlot hm he => exact .inl ⟨hm, he⟩
  | services k _ _ _ ht =>
    have hpend := encoderStep_pending ht
    cases encoderStep_frame ht
    exact .inr ⟨rfl, fun h hp => by simp [hpend, hp]⟩
  | answers _ _ _ hsame => cases hsame; exact .inr ⟨rfl, fun _ => id⟩
  | waits => exact .inr ⟨rfl, fun _ => id⟩
  | writesByte => exact .inr ⟨rfl, fun _ => id⟩
  | finishes => exact .inr ⟨rfl, fun _ => id⟩
  | begins => exact .inr ⟨rfl, fun _ => id⟩
  | initialises _ _ _ _ _ hu => simp [hl] at hu

/-- In a running block neither the slots begun nor the encoder steps taken become fewer. -/
theorem StepEffect.slot_encSteps_le {s t : State} {m : Move} (e : StepEffect s m t) (hl : s.life = .running) :
    s.slot ≤ t.slot ∧ s.encSteps ≤ t.encSteps := by
  cases e with
  | endsSlot => simp
  | services _ _ _ _ ht => cases encoderStep_frame ht; simp
  | answers _ _ _ hsame => cases hsame; exact ⟨le_rfl, le_rfl⟩
  | waits => exact ⟨le_rfl, le_rfl⟩
  | writesByte => exact ⟨le_rfl, le_rfl⟩
  | finishes => exact ⟨le_rfl, le_rfl⟩
  | begins => exact ⟨le_rfl, le_rfl⟩
  | initialises _ _ _ _ _ hu => simp [hl] at hu

/-- The micro-steps that the command in progress has still to take: its byte writes and the final one (R100). -/
def State.microStepsLeft (s : State) : Nat :=
  match s.fgOp with
  | none => 0
  | some op => op.writes.length + 1

theorem State.microStepsLeft_none {s : State} (h : s.fgOp = none) : s.microStepsLeft = 0 := by
  simp [microStepsLeft, h]

theorem State.microStepsLeft_some {s : State} {op : FgOp} (h : s.fgOp = some op) :
    s.microStepsLeft = op.writes.length + 1 := by
  simp [microStepsLeft, h]

theorem State.microStepsLeft_congr {s t : State} (h : t.fgOp = s.fgOp) : t.microStepsLeft = s.microStepsLeft := by
  rw [microStepsLeft, h, microStepsLeft]

/-- A step of the foreground takes one of the micro-steps left of a command in progress; any other step takes none. -/
theorem StepEffect.microStepsLeft_lt_or_eq {s t : State} {m : Move} (e : StepEffect s m t) (hop : s.fgOp ≠ none) :
    t.microStepsLeft < s.microStepsLeft ∨
      (t.microStepsLeft = s.microStepsLeft ∧ ∀ pick, m ≠ .foreground pick) := by
  cases e with
  | writesByte _ op k w _ hsome hw =>
    have hk : k < op.writes.length := (List.getElem?_eq_some_iff.mp hw).1
    refine .inl ?_
    rw [State.microStepsLeft_some hsome, State.microStepsLeft_some rfl, List.length_eraseIdx_of_lt hk]
    omega
  | finishes _ op _ hsome _ =>
    refine .inl ?_
    rw [State.microStepsLeft_some hsome, State.microStepsLeft_none rfl]
    omega
  | waits hno =>
    obtain ⟨rfl, -⟩ | ⟨rfl, -⟩ | ⟨_, -, hnone, -⟩ := hno
    · exact .inr ⟨rfl, nofun⟩
    · exact .inr ⟨rfl, nofun⟩
    · exact absurd hnone hop
  | endsSlot hm => exact .inr ⟨State.microStepsLeft_congr (slotEnd_fgOp s), by simp [hm]⟩
  | services _ hm _ _ ht => cases encoderStep_frame ht; exact .inr ⟨rfl, by simp [hm]⟩
  | answers _ _ hnone => exact absurd hnone hop
  | begins _ _ _ _ _ hnone => exact absurd hnone hop
  | initialises _ _ _ _ hnone => exact absurd hnone hop

/-! ### Progress along a run -/

/-- Of what is kept from step to step until something comes: that has come, or it is kept. -/
theorem comes_or_kept {P Q : Nat → Prop} {n m : Nat} (hle : n ≤ m) (hstep : ∀ k, P k → Q k ∨ P (k + 1)) (h : P n) :
    (∃ k, n ≤ k ∧ Q k) ∨ P m := by
  induction m, hle using Nat.le_induction with
  | base => exact .inr h
  | succ m hle ih =>
    obtain hq | hp := ih
    · exact .inl hq
    · exact (hstep m hp).imp_left fun hq => ⟨m, hle, hq⟩

/-- A sequence of numbers that grows again and again passes every number. -/
theorem exists_le_of_grows {f : Nat → Nat} (h : ∀ n, ∃ m, f n < f m) (k : Nat) : ∃ n, k ≤ f n := by
  induction k with
  | zero => exact ⟨0, Nat.zero_le _⟩
  | succ k ih =>
    obtain ⟨n, hn⟩ := ih
    obtain ⟨m, hm⟩ := h n
    exact ⟨m, Nat.succ_le_of_lt (Nat.lt_of_le_of_lt hn hm)⟩

/-- The stream's turn comes, again and again (R216). -/
theorem IsRun.stream_comes {r : Nat → State} (hr : IsRun r) (n : Nat) : ∃ m, n ≤ m ∧ (r m).nextMove = .stream := by
  obtain ⟨m, hle, hmoves, hturn⟩ := hr.turn_comes n .stream
  exact ⟨m, hle, by rw [State.nextMove_of_nil hmoves, State.owedMoves, hturn]⟩

/-- Where an event is pending, it is serviced next or the other one is (R130). -/
theorem State.servicedHalf_cases {s : State} {h : Half} (hp : s.pending h = true) :
    s.servicedHalf = some h ∨ s.servicedHalf = some h.other := by
  by_cases ho : s.pending h.other = true → s.lastEvt = h.other
  · exact .inl (State.servicedHalf_of_pending hp ho)
  · obtain ⟨hpo, hne⟩ := Classical.not_imp.mp ho
    refine .inr (State.servicedHalf_of_pending hpo fun _ => ?_)
    rw [Half.other_other]
    exact (Half.eq_or_eq_other h s.lastEvt).resolve_right hne

/-- The turn owed to a pending event services it, after the other event where that one is the older (R130, R216). -/
theorem IsRun.serviced_of_turn {r : Nat → State} {m : Nat} {h : Half} (hr : IsRun r) (hl : (r m).life = .running)
    (hp : (r m).pending h = true) (hmoves : (r m).moves = []) (hturn : turnOf (r m).rounds = .event h) :
    ∃ k, m ≤ k ∧ (r k).nextMove = .encoder ∧ (r k).servicedHalf = some h := by
  have howed : (r m).owedMoves =
      (.encoder, if (r m).pending h = true ∧ (r m).servicedHalf = some h.other then [.encoder] else []) := by
    rw [State.owedMoves, hturn]
  have hm : (r m).nextMove = .encoder := by rw [State.nextMove_of_nil hmoves, howed]
  by_cases hfirst : (r m).servicedHalf = some h
  · exact ⟨m, le_rfl, hm, hfirst⟩
  have holder := (State.servicedHalf_cases hp).resolve_left hfirst
  have hstep := encoderStep_of_step (hr m) hl hm holder
  have hpend := encoderStep_pending hstep
  refine ⟨m + 1, Nat.le_succ m, ?_, State.servicedHalf_of_pending (by simp [hpend, hp]) (by simp [hpend])⟩
  have hnext : (r (m + 1)).moves = .encoder :: Config.freeRound (r m).rounds := by
    rw [(step_schedule (hr m)).1, State.takeMove_moves, if_pos hmoves, howed, if_pos ⟨hp, holder⟩]
    rfl
  exact State.nextMove_of_cons hnext

/-- A pending event of a running block is serviced (R216). -/
theorem IsRun.event_serviced {r : Nat → State} (hr : IsRun r) {n : Nat} {h : Half} (hl : (r n).life = .running)
    (hp : (r n).pending h = true) : ∃ m, n ≤ m ∧ (r m).nextMove = .encoder ∧ (r m).servicedHalf = some h := by
  obtain ⟨m, hle, hmoves, hturn⟩ := hr.turn_comes n (.event h)
  have hstep (k : Nat) (hk : (r k).life = .running ∧ (r k).pending h = true) :
      ((r k).nextMove = .encoder ∧ (r k).servicedHalf = some h) ∨
        ((r (k + 1)).life = .running ∧ (r (k + 1)).pending h = true) := by
    have he := (step_effect (hr k)).services_or_pending (h := h) (by simpa using hk.1) (by simpa using hk.2)
    rw [State.servicedHalf_takeMove] at he
    exact he.imp_right fun hp => ⟨running_of_step (hr k) hk.1, hp⟩
  obtain hdone | ⟨hl', hp'⟩ := comes_or_kept hle hstep ⟨hl, hp⟩
  · exact hdone
  · obtain ⟨k, hk, hserv⟩ := hr.serviced_of_turn hl' hp' hmoves hturn
    exact ⟨k, hle.trans hk, hserv⟩

/-- A command in progress completes: each turn of the foreground takes one of its micro-steps (R216). -/
theorem IsRun.command_completes {r : Nat → State} (hr : IsRun r) (n : Nat) : ∃ m, n ≤ m ∧ (r m).fgOp = none := by
  generalize hleft : (r n).microStepsLeft = c
  induction c using Nat.strong_induction_on generalizing n with
  | _ c ih =>
    obtain ⟨m, hle, hmoves, hturn⟩ := hr.turn_comes n .foreground
    have hm : (r m).nextMove = .foreground (Config.freePick (r m).rounds) := by
      rw [State.nextMove_of_nil hmoves, State.owedMoves, hturn]
    have hstep (k : Nat) (hop : (r k).fgOp ≠ none) :
        (r (k + 1)).microStepsLeft < (r k).microStepsLeft ∨
          ((r (k + 1)).microStepsLeft = (r k).microStepsLeft ∧ ∀ pick, (r k).nextMove ≠ .foreground pick) := by
      have he := (step_effect (hr k)).microStepsLeft_lt_or_eq (by simpa using hop)
      rwa [State.microStepsLeft_congr (State.takeMove_fgOp _)] at he
    have hkept (k : Nat) (hk : (r k).microStepsLeft ≤ c) :
        (r k).fgOp = none ∨ (r (k + 1)).microStepsLeft ≤ c := by
      by_cases hop : (r k).fgOp = none
      · exact .inl hop
      · obtain hlt | ⟨heq, -⟩ := hstep k hop
        · exact .inr (by omega)
        · exact .inr (heq ▸ hk)
    obtain hdone | hk := comes_or_kept hle hkept hleft.le
    · exact hdone
    by_cases hop : (r m).fgOp = none
    · exact ⟨m, hle, hop⟩
    · have hlt : (r (m + 1)).microStepsLeft < c := by
        obtain hlt | ⟨-, hno⟩ := hstep m hop
        · omega
        · exact absurd hm (hno _)
      obtain ⟨k, hk, hnone⟩ := ih _ hlt (m + 1) rfl
      exact ⟨k, by omega, hnone⟩

/-! ### Runs of a running block that meets the invariant -/

section

variable {r : Nat → State} (hr : IsRun r)

include hr

theorem IsRun.inv (hi : Inv (r 0)) (n : Nat) : Inv (r n) := by
  induction n with
  | zero => exact hi
  | succ n ih => exact stepKeepsTheInvariant _ _ ih (hr n)

theorem IsRun.running (hl : (r 0).life = .running) (n : Nat) : (r n).life = .running := by
  induction n with
  | zero => exact hl
  | succ n ih => exact running_of_step (hr n) ih

variable (hi : Inv (r 0)) (hl : (r 0).life = .running)

include hl

theorem IsRun.slot_encSteps_mono {n m : Nat} (hle : n ≤ m) :
    (r n).slot ≤ (r m).slot ∧ (r n).encSteps ≤ (r m).encSteps := by
  have hstep (k : Nat) : (r k).slot ≤ (r (k + 1)).slot ∧ (r k).encSteps ≤ (r (k + 1)).encSteps := by
    simpa using (step_effect (hr k)).slot_encSteps_le (by simpa using hr.running hl k)
  exact ⟨monotone_nat_of_le_succ (fun k => (hstep k).1) hle, monotone_nat_of_le_succ (fun k => (hstep k).2) hle⟩

/-- Until a slot ends the stream stays at its half, and an event that is not pending stays so. -/
theorem IsRun.slot_ends_or_kept {n m : Nat} (hle : n ≤ m) :
    (∃ k, n ≤ k ∧ (r k).nextMove = .stream ∧ streamEnabled (r k) = true) ∨
      ((r m).curHalf = (r n).curHalf ∧ ∀ h, (r n).pending h = false → (r m).pending h = false) := by
  have hstep (k : Nat) (hk : (r k).curHalf = (r n).curHalf ∧ ∀ h, (r n).pending h = false → (r k).pending h = false) :
      ((r k).nextMove = .stream ∧ streamEnabled (r k) = true) ∨
        ((r (k + 1)).curHalf = (r n).curHalf ∧ ∀ h, (r n).pending h = false → (r (k + 1)).pending h = false) := by
    obtain ⟨hcur, hclear⟩ := hk
    have he := (step_effect (hr k)).endsSlot_or_curHalf_eq (by simpa using hr.running hl k)
    simp only [streamEnabled_takeMove, State.takeMove_curHalf, State.pending_takeMove] at he
    exact he.imp_right fun ⟨hcur', hclear'⟩ => ⟨hcur'.trans hcur, fun h hp => hclear' h (hclear h hp)⟩
  exact comes_or_kept hle hstep ⟨rfl, fun _ => id⟩

include hi

/-- A slot ends, again and again: where the stream waits for an event, that event is serviced, and by the stream's next
turn a slot has ended or the stream waits no more (R212, R216). -/
theorem IsRun.slot_ends (n : Nat) : ∃ m, n ≤ m ∧ (r m).nextMove = .stream ∧ streamEnabled (r m) = true := by
  have henabled (k : Nat) (hp : (r k).pending (r k).curHalf.other = false) : streamEnabled (r k) = true :=
    streamEnabled_iff.mpr ⟨hr.running hl k, (hr.inv hi k).started (hr.running hl k), fun _ => hp⟩
  obtain ⟨a, hna, hma⟩ := hr.stream_comes n
  cases hwait : (r a).pending (r a).curHalf.other with
  | false => exact ⟨a, hna, hma, henabled a hwait⟩
  | true =>
    obtain ⟨b, hab, hmb, hserv⟩ := hr.event_serviced (hr.running hl a) hwait
    obtain ⟨c, hbc, hmc⟩ := hr.stream_comes (b + 1)
    obtain ⟨k, hak, hend⟩ | ⟨hcurb, -⟩ := hr.slot_ends_or_kept hl (n := a) (m := b + 1) (by omega)
    · exact ⟨k, by omega, hend⟩
    obtain ⟨k, hbk, hend⟩ | ⟨hcurc, hclear⟩ := hr.slot_ends_or_kept hl hbc
    · exact ⟨k, by omega, hend⟩
    have hpb := encoderStep_pending (encoderStep_of_step (hr b) (hr.running hl b) hmb hserv) (r a).curHalf.other
    rw [if_pos rfl] at hpb
    refine ⟨c, by omega, hmc, henabled c ?_⟩
    rw [hcurc, hcurb]
    exact hclear _ hpb

theorem IsRun.slot_grows (n : Nat) : ∃ m, (r n).slot < (r m).slot := by
  obtain ⟨m, hle, hm, he⟩ := hr.slot_ends hi hl n
  have hslot : (r (m + 1)).slot = (r m).slot + 1 := by simp [eq_slotEnd_of_step (hr m) hm he]
  have hmono := (hr.slot_encSteps_mono hl hle).1
  exact ⟨m + 1, by omega⟩

/-- The event that a slot end raises is serviced by an encoder step (R216). -/
theorem IsRun.encSteps_grows (n : Nat) : ∃ m, (r n).encSteps < (r m).encSteps := by
  obtain ⟨a, hna, hma, hea⟩ := hr.slot_ends hi hl n
  have hraised : (r (a + 1)).pending (r a).curHalf = true := by simp [eq_slotEnd_of_step (hr a) hma hea]
  obtain ⟨m, ham, hm, hserv⟩ := hr.event_serviced (hr.running hl (a + 1)) hraised
  have hcount : (r (m + 1)).encSteps = (r m).encSteps + 1 := by
    simpa using encoderStep_encSteps (encoderStep_of_step (hr m) (hr.running hl m) hm hserv)
  have hmono := (hr.slot_encSteps_mono hl (by omega : n ≤ m)).2
  exact ⟨m + 1, by omega⟩

end

end Sys2Proof.Machine

open Sys2Proof Sys2Proof.Machine

/-- Settles O46: every turn comes again and again, and the turn owed gives the agent its step. -/
theorem everyRunIsFair : Obligations.EveryRunIsFair := fun _ hr =>
  { stream := fun n _ => hr.stream_comes n
    encoder := fun _ _ hl hp => hr.event_serviced hl hp
    foreground := fun n _ => hr.command_completes n }

/-- Settles O47: a good state has a next state, which is good again. -/
theorem runsNeverEnd : Obligations.RunsNeverEnd := by
  intro s hi
  have hnext (t : {t : State // Inv t}) : ∃ u : {u : State // Inv u}, step t = .next u := by
    obtain ⟨u, hu⟩ := stepNeverStopsARun t t.property
    exact ⟨⟨u, stepKeepsTheInvariant t u t.property hu⟩, hu⟩
  choose next hstep using hnext
  refine ⟨fun n => (next^[n] ⟨s, hi⟩).val, rfl, fun n => ?_, fun n => (next^[n] ⟨s, hi⟩).property⟩
  simpa only [Function.iterate_succ_apply'] using hstep (next^[n] ⟨s, hi⟩)

/-- Settles O48: slots end again and again, and each raises an event that an encoder step services. -/
theorem slotsAndEncoderStepsNeverEnd : Obligations.SlotsAndEncoderStepsNeverEnd := fun _ hr hi hl k =>
  ⟨exists_le_of_grows (hr.slot_grows hi hl) k, exists_le_of_grows (hr.encSteps_grows hi hl) k⟩

end

section
/-! PROOFS. Admission: which commands the life admits and which it refuses, and that before `INIT` neither the stream
nor the encoder has a step (O11). -/

namespace Sys2Proof.Machine

/-! ### The issue of `SETV` (R102) -/

theorem exec_setv_uninit {s : State} (hl : s.life = .uninit) (idx : BitVec 32) (ch : BitVec 2) (val : Byte) :
    exec (.setv idx ch val) s = .next { s with refused := true } := by
  rw [exec, execSetv, whenRunning_uninit hl]

theorem exec_setv_inRange {s : State} {idx : BitVec 32} {ch : BitVec 2} {c : Channel} (hl : s.life = .running)
    (hi : idx.toNat < s.ledCount.toNat) (hc : Channel.ofField ch = some c) (val : Byte) :
    exec (.setv idx ch val) s = .next (beginCommand (.setv idx ch val) [⟨idx.toNat, c, val⟩] s) := by
  simp [exec, execSetv, whenRunning_running hl, inRange, hi, hc]

theorem exec_setv_outOfRange {s : State} {idx : BitVec 32} {ch : BitVec 2} (hl : s.life = .running)
    (ho : s.ledCount.toNat ≤ idx.toNat ∨ Channel.ofField ch = none) (val : Byte) :
    exec (.setv idx ch val) s = .next (s.returnStatus .outOfRange) := by
  obtain hi | hc := ho
  · simp [exec, execSetv, whenRunning_running hl, inRange, hi]
  · simp [exec, execSetv, whenRunning_running hl, hc]

/-! ### A running block admits the mutators (R245) -/

/-- `SETV` begins or returns `OUT_OF_RANGE`, and neither is a refusal. -/
theorem exec_setv_keeps_refused {s : State} (hl : s.life = .running) (idx : BitVec 32) (ch : BitVec 2) (val : Byte) :
    ∃ t, exec (.setv idx ch val) s = .next t ∧ t.refused = s.refused := by
  obtain ho | hi := le_or_gt s.ledCount.toNat idx.toNat
  · exact ⟨_, exec_setv_outOfRange hl (.inl ho) val, rfl⟩
  · cases hc : Channel.ofField ch with
    | none => exact ⟨_, exec_setv_outOfRange hl (.inr hc) val, rfl⟩
    | some c => exact ⟨_, exec_setv_inRange hl hi hc val, rfl⟩

/-- `SETVS` begins or returns `OUT_OF_RANGE`, and neither is a refusal. -/
theorem exec_setvs_keeps_refused {s : State} (hl : s.life = .running) (idx : BitVec 32) (r g b : Byte) :
    ∃ t, exec (.setvs idx r g b) s = .next t ∧ t.refused = s.refused := by
  obtain ho | hi := le_or_gt s.ledCount.toNat idx.toNat
  · exact ⟨_, exec_setvs_outOfRange hl ho r g b, rfl⟩
  · exact ⟨_, exec_setvs_inRange hl hi r g b, rfl⟩

/-! ### A block that is not running gives the stream and the encoder no step (R245) -/

theorem agentStep_stream_uninit {s : State} (hl : s.life = .uninit) : agentStep .stream s = .next s := by
  have hoff : ¬ streamEnabled s = true := fun h => by
    simpa [hl] using running_of_streamEnabled h
  rw [agentStep, streamStep_of_not_enabled hoff]

theorem agentStep_encoder_uninit {s : State} (hl : s.life = .uninit) : agentStep .encoder s = .next s := by
  have hturn : encoderTurn s = none := if_neg (by simp [hl])
  rw [agentStep, encoderAgentStep, hturn]

end Sys2Proof.Machine

open Sys2Proof Sys2Proof.Machine

/-- Settles O11: before `INIT` the mutators are refused and both agents wait; after it only `INIT` is refused. -/
theorem admissionFollowsLife : Obligations.AdmissionFollowsLife := by
  refine fun s => ⟨fun hl => ?_, fun hl => ?_⟩
  · exact ⟨exec_setv_uninit hl, exec_setvs_uninit hl, exec_clear_uninit hl, agentStep_stream_uninit hl,
      agentStep_encoder_uninit hl⟩
  · exact ⟨fun count => exec_init_of_running count hl, exec_setv_keeps_refused hl, exec_setvs_keeps_refused hl,
      _, exec_clear_running hl, rfl⟩

end

section
/-! PROOFS. What block reset leaves (O33): the registers from the invariants of an uninitialised block, and the buffer
entry by entry. -/

namespace Sys2Proof.Machine

theorem State.reset_buf_getElem (j : Fin 48) : State.reset.buf[j] = 0 :=
  Vector.getElem_replicate j.isLt

end Sys2Proof.Machine

open Sys2Proof Sys2Proof.Machine

/-- Settles O33: the reset state meets the invariants of an uninitialised block, and every entry of its buffer is 0. -/
theorem resetLeavesTheBlockUninitialised : Obligations.ResetLeavesTheBlockUninitialised :=
  have hi : UninitInv State.reset := .reset
  ⟨rfl, State.reset_buf_getElem, hi.not_started, hi.pending0_clear, hi.pending1_clear, hi.no_command, hi.no_trace,
    hi.no_wlog, hi.no_faults, rfl⟩

end

section
/-! PROOFS. `SETV` (O14): its channel field, and its one byte write with the final micro-step (R102). -/

namespace Sys2Proof

theorem Channel.ofField_eq_some_of_index {ch : BitVec 2} {c : Channel} (h : ch.toNat = c.index) :
    Channel.ofField ch = some c := by
  have hch : ch = BitVec.ofNat 2 c.index := BitVec.eq_of_toNat_eq (by cases c <;> exact h)
  subst hch
  cases c <;> rfl

theorem Channel.ofField_eq_none_of_two_lt {ch : BitVec 2} (h : 2 < ch.toNat) : Channel.ofField ch = none := by
  have hch : ch = 3#2 := BitVec.eq_of_toNat_eq (Nat.le_antisymm (Nat.le_of_lt_succ ch.isLt) h)
  subst hch
  rfl

namespace Machine

/-- A command in progress with one write pending performs it and ends, whatever the choices (R100 (2), (3)). -/
theorem runForeground_single {s : State} {op : Instr} {w : LedWrite} (hlt : w.led < s.ledCount.toNat) (p q : Nat) :
    runForeground [p, q] (beginCommand op [w] s) =
      .next { s with led := s.led.store w, dirty := true, status := .ok, fgOp := none } := by
  obtain ⟨order, ho, hrun⟩ := runForeground_command (s := beginCommand op [w] s) (ps := [p]) q rfl rfl
    (List.forall_mem_singleton.mpr hlt) rfl
  obtain rfl := List.perm_singleton.mp ho
  exact hrun

end Machine
end Sys2Proof

open Sys2Proof Sys2Proof.Machine

/-- Settles O14: the command ends after its one write, and that write is of the named cell. -/
theorem setvFollowsItsRule : Obligations.SetvFollowsItsRule := by
  refine fun idx ch val s => ⟨fun hl => exec_setv_uninit hl idx ch val, fun hl ho => ?_, fun hl hi c hc => ⟨?_, ?_⟩⟩
  · exact exec_setv_outOfRange hl (ho.imp_right Channel.ofField_eq_none_of_two_lt) val
  · exact exec_setv_inRange hl hi (Channel.ofField_eq_some_of_index hc) val
  · exact fun p q => ⟨_, runForeground_single hi p q, rfl, fun hwf i d => Memory.read_store _ i d hwf⟩

end
